-- ==== Sys2Proof/Word.lean ====
section
/-! DEFINITION. The numbers the manual counts things with: bytes on the links, beat numbers, and the numbers of slots, stations,
bays, banks and channels. -/

namespace Sys2Proof

/-- A byte of a frame (R183). -/
abbrev Byte := BitVec 8

/-- A beat number: the 32-bit beat counter, which wraps (R1). -/
abbrev Beat := BitVec 32

/-- A slot of the Hanger Table, 0 to 47 (R34). -/
abbrev Slot := Fin 48

/-- A station, 0 to 15 (chapter 1.3). -/
abbrev StationNo := Fin 16

/-- A bay of a station, 0 to 3 (R10). -/
abbrev BayNo := Fin 4

/-- A recipe bank, 0 to 31 (R18). -/
abbrev BankNo := Fin 32

/-- An output channel, 0 to 19 (R135). -/
abbrev ChannelNo := Fin 20

/-- A replenishment pump, 0 to 3: pump n is output channel 16 + n (R135). -/
abbrev PumpNo := Fin 4

/-- An entry of the pattern table, 0 to 7; entry 0 is fixed at none (R138). -/
abbrev PatternNo := Fin 8

end Sys2Proof
end

