-- ==== Sys2Proof/Config.lean ====
section
/-! DEFINITION. What the manual leaves open, as constants without a body: nothing can be proved of their values, so a claim that
holds of the model holds whatever they are. Each is applied to the counter `draws` of State, which moves on at every beat, at
every request frame taken, at every completion and reset, and at the end of an abandoned fetch frame. -/

namespace Sys2Proof.Config

/-- DESIGN CHOICE (log 5), safe. The order in which one beat takes the work of its hangers: task `task` of the beat with draw
`draw` stands at this key ("the hangers are taken in no stated order", R68; "either may be first", R98). -/
opaque beatKey (draw task : Nat) : Nat

/-- DESIGN CHOICE (log 6), safe. Whether the credit of a run that completes on a beat is made inside that beat, among the
increments, or after them (R67, R86). -/
opaque creditInside (draw station : Nat) : Bool

/-- DESIGN CHOICE (log 9, log 33), safe. A byte whose value the manual does not state: the bank and total of a closed load area in
READ LINE, the argument and timeout beat of an absent order in READ CARRIAGE, and what a fetch frame shifts out, after a reset
has abandoned it, in the place of the response that was READY. -/
opaque unstatedByte (draw index : Nat) : Byte

/-- DESIGN CHOICE (log 33), safe. Whether the host holds the select line asserted, with a frame in progress, at a completion or at the
RESET input (R160): the table has no row for the assertion of select. -/
opaque selectAsserted (draw : Nat) : Bool

/-- DESIGN CHOICE (log 33), safe. How many bytes the part has shifted out after the buffer state, in the frame in progress, when the
RESET input abandons it (R160): the table has no row for a byte of a frame. -/
opaque bytesClocked (draw : Nat) : Nat

end Sys2Proof.Config
end

