-- ==== Sys2Proof/Syntax.lean ====
section
/-! DEFINITION. The commands of the LS-412: one constructor per row of spec/opcode_table.json. -/

namespace Sys2Proof

/-- Carriage 1 or carriage 2, and the carriage link of that number (R109). -/
inductive CarriageId where
  | one
  | two
deriving DecidableEq, Repr

/-- A serial line the part receives on (R188): one of the carriage links, or the sensor line. -/
inductive SerialLine where
  | link (c : CarriageId)
  | sensor
deriving DecidableEq, Repr

/-- The commands and events, in the order of the table. A host command carries the modifiers byte and the payload of its request
frame (R161, R184); a report carries its link and its argument byte (R187). -/
inductive Instr where
  /-- BEAT: the end of a beat period (R1). -/
  | beat
  /-- RESET: the RESET input (R17). -/
  | reset
  /-- LINE_STOP_ACTIVE: the LINE STOP input becomes active (R151). -/
  | lineStopActive
  /-- LINE_STOP_INACTIVE: the LINE STOP input becomes inactive (R155). -/
  | lineStopInactive
  /-- READING_FRAME: the bytes of a frame received whole on the sensor line, sync byte first (R13, R187). -/
  | readingFrame (frame : List Byte)
  /-- ARRIVED on link `c`, with its station byte (R119). -/
  | arrived (c : CarriageId) (arg : Byte)
  /-- PARKED on link `c` (R124). -/
  | parked (c : CarriageId) (arg : Byte)
  /-- LIFTED on link `c`, with its bay byte (R121). -/
  | lifted (c : CarriageId) (arg : Byte)
  /-- LOWERED on link `c`, with its bay byte (R123). -/
  | lowered (c : CarriageId) (arg : Byte)
  /-- FAULT on link `c`, with the driver's fault code (R116). -/
  | faultReport (c : CarriageId) (code : Byte)
  /-- ORDER_EXPIRY: the outstanding order of carriage `c` reached its timeout beat (R117). -/
  | orderExpiry (c : CarriageId)
  /-- DRAIN_END: carriage `c` reached its drain end (R121). -/
  | drainEnd (c : CarriageId)
  /-- RUN_COMPLETE: the replenishment run of station `st` is complete (R85, R86). -/
  | runComplete (st : StationNo)
  /-- COMPLETION: the response in assembly stands whole in the buffer (R162). -/
  | completion
  /-- FETCH_FRAME: a frame opened by the fetch code, in which `count` whole bytes were clocked (R163). -/
  | fetchFrame (count : Nat)
  /-- REQUEST_FRAME: the bytes the host clocked in one frame (R160, R161, R165). -/
  | requestFrame (bytes : List Byte)
  /-- IDENTIFY (R169). -/
  | identify (m : Byte) (p : List Byte)
  /-- READ LINE (R170). -/
  | readLine (m : Byte) (p : List Byte)
  /-- SET LINE PARAMETERS (R171). -/
  | setLineParameters (m : Byte) (p : List Byte)
  /-- LINK RESET (R172). -/
  | linkReset (m : Byte) (p : List Byte)
  /-- FULL RESET (R173). -/
  | fullReset (m : Byte) (p : List Byte)
  /-- START LINE (R4). -/
  | startLine (m : Byte) (p : List Byte)
  /-- STOP LINE (R5). -/
  | stopLine (m : Byte) (p : List Byte)
  /-- PAUSE LINE (R148). -/
  | pauseLine (m : Byte) (p : List Byte)
  /-- RESUME (R150, R156). -/
  | resume (m : Byte) (p : List Byte)
  /-- SET STATION (R7, R8). -/
  | setStation (m : Byte) (p : List Byte)
  /-- READ STATION (R9). -/
  | readStation (m : Byte) (p : List Byte)
  /-- SET BAY SERVICE (R12). -/
  | setBayService (m : Byte) (p : List Byte)
  /-- SET ACTIVITY (R88). -/
  | setActivity (m : Byte) (p : List Byte)
  /-- SET BATH PARAMETERS (R89, R90). -/
  | setBathParameters (m : Byte) (p : List Byte)
  /-- SELECT BANK (R24). -/
  | selectBank (m : Byte) (p : List Byte)
  /-- LOAD STEPS (R26 to R29). -/
  | loadSteps (m : Byte) (p : List Byte)
  /-- READ STEPS (R31). -/
  | readSteps (m : Byte) (p : List Byte)
  /-- CLEAR BANK (R32). -/
  | clearBank (m : Byte) (p : List Byte)
  /-- SET RATE TABLE (R65). -/
  | setRateTable (m : Byte) (p : List Byte)
  /-- READ RATE TABLE (R66). -/
  | readRateTable (m : Byte) (p : List Byte)
  /-- ADMIT (R39 to R41). -/
  | admitHanger (m : Byte) (p : List Byte)
  /-- RETIRE (R42, R43). -/
  | retire (m : Byte) (p : List Byte)
  /-- HOLD (R44). -/
  | hold (m : Byte) (p : List Byte)
  /-- RELEASE (R45). -/
  | release (m : Byte) (p : List Byte)
  /-- AMEND (R46, R47). -/
  | amend (m : Byte) (p : List Byte)
  /-- SET DOSE (R77, R78). -/
  | setDose (m : Byte) (p : List Byte)
  /-- FIND by tag (R55). -/
  | find (m : Byte) (p : List Byte)
  /-- FIND MATCHING (R56). -/
  | findMatching (m : Byte) (p : List Byte)
  /-- READ RECORDS (R168). -/
  | readRecords (m : Byte) (p : List Byte)
  /-- READ QUEUE (R107). -/
  | readQueue (m : Byte) (p : List Byte)
  /-- PLACE CARRIAGE (R128). -/
  | placeCarriage (m : Byte) (p : List Byte)
  /-- RECOVER CARRIAGE (R129, R130). -/
  | recoverCarriage (m : Byte) (p : List Byte)
  /-- DISABLE CARRIAGE (R131). -/
  | disableCarriage (m : Byte) (p : List Byte)
  /-- ENABLE CARRIAGE (R132). -/
  | enableCarriage (m : Byte) (p : List Byte)
  /-- READ CARRIAGE (R133). -/
  | readCarriage (m : Byte) (p : List Byte)
  /-- SET CHANNEL MODE (R142). -/
  | setChannelMode (m : Byte) (p : List Byte)
  /-- ENABLE OUTPUTS (R143). -/
  | enableOutputs (m : Byte) (p : List Byte)
  /-- SET MANUAL OUTPUTS (R144). -/
  | setManualOutputs (m : Byte) (p : List Byte)
  /-- SET PATTERN (R145). -/
  | setPattern (m : Byte) (p : List Byte)
  /-- READ OUTPUTS (R146). -/
  | readOutputs (m : Byte) (p : List Byte)
  /-- ACK (R177). -/
  | ack (m : Byte) (p : List Byte)
  /-- DONE (R178). -/
  | doneService (m : Byte) (p : List Byte)
  /-- SET MASK (R179). -/
  | setMask (m : Byte) (p : List Byte)
  /-- SET LEVEL (R176). -/
  | setLevel (m : Byte) (p : List Byte)
  /-- CLEAR MARK (R180). -/
  | clearMark (m : Byte) (p : List Byte)
  /-- READ MARKS (R181). -/
  | readMarks (m : Byte) (p : List Byte)
  /-- REPORT_FRAME_DISCARDED: a frame complete on link `c` whose check fails or whose report code names no report (R188). -/
  | reportFrameDiscarded (c : CarriageId)
  /-- FRAME_BROKEN_OFF: a frame in reception on `line` is broken off (R188). -/
  | frameBrokenOff (line : SerialLine)
deriving DecidableEq, Repr

end Sys2Proof
end

