-- ==== Sys2Proof/Decode.lean ====
section
/-! DEFINITION. The byte layouts of the frames the part takes (R184, R187): request frames and reports, read and written. The
table gives no row any bits, so `decodeTableWord` answers none. -/

namespace Sys2Proof

/-- The command a word of the opcode table spells: the table gives no row any bits. -/
def decodeTableWord (_nbits _w : Nat) : Option Instr := none

/-- The command code of R184 names this command, taken with its modifiers byte and payload; none for a code that names no
command. -/
def commandOf (code : Byte) (m : Byte) (p : List Byte) : Option Instr :=
  match code.toNat with
  | 0x01 => some (.identify m p)
  | 0x02 => some (.readLine m p)
  | 0x03 => some (.setLineParameters m p)
  | 0x04 => some (.linkReset m p)
  | 0x05 => some (.fullReset m p)
  | 0x06 => some (.startLine m p)
  | 0x07 => some (.stopLine m p)
  | 0x08 => some (.pauseLine m p)
  | 0x09 => some (.resume m p)
  | 0x10 => some (.setStation m p)
  | 0x11 => some (.readStation m p)
  | 0x12 => some (.setBayService m p)
  | 0x13 => some (.setActivity m p)
  | 0x14 => some (.setBathParameters m p)
  | 0x18 => some (.selectBank m p)
  | 0x19 => some (.loadSteps m p)
  | 0x1A => some (.readSteps m p)
  | 0x1B => some (.clearBank m p)
  | 0x1C => some (.setRateTable m p)
  | 0x1D => some (.readRateTable m p)
  | 0x20 => some (.admitHanger m p)
  | 0x21 => some (.retire m p)
  | 0x22 => some (.hold m p)
  | 0x23 => some (.release m p)
  | 0x24 => some (.amend m p)
  | 0x25 => some (.setDose m p)
  | 0x26 => some (.find m p)
  | 0x27 => some (.findMatching m p)
  | 0x28 => some (.readRecords m p)
  | 0x29 => some (.readQueue m p)
  | 0x30 => some (.placeCarriage m p)
  | 0x31 => some (.recoverCarriage m p)
  | 0x32 => some (.disableCarriage m p)
  | 0x33 => some (.enableCarriage m p)
  | 0x34 => some (.readCarriage m p)
  | 0x38 => some (.setChannelMode m p)
  | 0x39 => some (.enableOutputs m p)
  | 0x3A => some (.setManualOutputs m p)
  | 0x3B => some (.setPattern m p)
  | 0x3C => some (.readOutputs m p)
  | 0x40 => some (.ack m p)
  | 0x41 => some (.doneService m p)
  | 0x42 => some (.setMask m p)
  | 0x43 => some (.setLevel m p)
  | 0x44 => some (.clearMark m p)
  | 0x45 => some (.readMarks m p)
  | _ => none

/-- A host command's code, modifiers byte and payload (R184); none for the events that are no request frame. -/
def Instr.request : Instr → Option (Byte × Byte × List Byte)
  | .identify m p => some (0x01, m, p)
  | .readLine m p => some (0x02, m, p)
  | .setLineParameters m p => some (0x03, m, p)
  | .linkReset m p => some (0x04, m, p)
  | .fullReset m p => some (0x05, m, p)
  | .startLine m p => some (0x06, m, p)
  | .stopLine m p => some (0x07, m, p)
  | .pauseLine m p => some (0x08, m, p)
  | .resume m p => some (0x09, m, p)
  | .setStation m p => some (0x10, m, p)
  | .readStation m p => some (0x11, m, p)
  | .setBayService m p => some (0x12, m, p)
  | .setActivity m p => some (0x13, m, p)
  | .setBathParameters m p => some (0x14, m, p)
  | .selectBank m p => some (0x18, m, p)
  | .loadSteps m p => some (0x19, m, p)
  | .readSteps m p => some (0x1A, m, p)
  | .clearBank m p => some (0x1B, m, p)
  | .setRateTable m p => some (0x1C, m, p)
  | .readRateTable m p => some (0x1D, m, p)
  | .admitHanger m p => some (0x20, m, p)
  | .retire m p => some (0x21, m, p)
  | .hold m p => some (0x22, m, p)
  | .release m p => some (0x23, m, p)
  | .amend m p => some (0x24, m, p)
  | .setDose m p => some (0x25, m, p)
  | .find m p => some (0x26, m, p)
  | .findMatching m p => some (0x27, m, p)
  | .readRecords m p => some (0x28, m, p)
  | .readQueue m p => some (0x29, m, p)
  | .placeCarriage m p => some (0x30, m, p)
  | .recoverCarriage m p => some (0x31, m, p)
  | .disableCarriage m p => some (0x32, m, p)
  | .enableCarriage m p => some (0x33, m, p)
  | .readCarriage m p => some (0x34, m, p)
  | .setChannelMode m p => some (0x38, m, p)
  | .enableOutputs m p => some (0x39, m, p)
  | .setManualOutputs m p => some (0x3A, m, p)
  | .setPattern m p => some (0x3B, m, p)
  | .readOutputs m p => some (0x3C, m, p)
  | .ack m p => some (0x40, m, p)
  | .doneService m p => some (0x41, m, p)
  | .setMask m p => some (0x42, m, p)
  | .setLevel m p => some (0x43, m, p)
  | .clearMark m p => some (0x44, m, p)
  | .readMarks m p => some (0x45, m, p)
  | .beat => none
  | .reset => none
  | .lineStopActive => none
  | .lineStopInactive => none
  | .readingFrame _ => none
  | .arrived _ _ => none
  | .parked _ _ => none
  | .lifted _ _ => none
  | .lowered _ _ => none
  | .faultReport _ _ => none
  | .orderExpiry _ => none
  | .drainEnd _ => none
  | .runComplete _ => none
  | .completion => none
  | .fetchFrame _ => none
  | .requestFrame _ => none
  | .reportFrameDiscarded _ => none
  | .frameBrokenOff _ => none

/-- A request frame is well formed when it has at least three bytes, declares a payload of at most 64 bytes, and has exactly
three bytes more than it declares (R161). -/
def frameWellFormed (bytes : List Byte) : Bool :=
  match bytes with
  | _ :: _ :: n :: p => n.toNat ≤ 64 && p.length == n.toNat
  | _ => false

/-- The command a well-formed request frame names (R161, R165). -/
def decodeRequest (bytes : List Byte) : Option Instr :=
  match bytes with
  | code :: m :: n :: p => if frameWellFormed (code :: m :: n :: p) then commandOf code m p else none
  | _ => none

/-- The request frame of a host command: code, modifiers, payload length, payload (R184). -/
def encodeRequest (i : Instr) : Option (List Byte) :=
  i.request.map fun q => q.1 :: q.2.1 :: BitVec.ofNat 8 q.2.2.length :: q.2.2

/-- The check byte: the exclusive-or of every byte after the first (R187); `body` is the frame without its sync byte and check. -/
def checkOf (body : List Byte) : Byte :=
  body.foldl (fun a b => a ^^^ b) 0

/-- The report a frame of carriage link `c` carries; none for a frame that is discarded: wrong length, no sync byte, a check that
fails, or a code that names no report (R187, R188). -/
def decodeReport (c : CarriageId) (frame : List Byte) : Option Instr :=
  match frame with
  | [sync, code, arg, chk] =>
    if sync = 0xA5 ∧ chk = checkOf [code, arg] then
      match code.toNat with
      | 0x11 => some (.arrived c arg)
      | 0x12 => some (.parked c arg)
      | 0x13 => some (.lifted c arg)
      | 0x14 => some (.lowered c arg)
      | 0x1F => some (.faultReport c arg)
      | _ => none
    else none
  | _ => none

/-- The link, report code and argument of a report (R187); none for what is no report. -/
def Instr.report : Instr → Option (CarriageId × Byte × Byte)
  | .arrived c arg => some (c, 0x11, arg)
  | .parked c arg => some (c, 0x12, arg)
  | .lifted c arg => some (c, 0x13, arg)
  | .lowered c arg => some (c, 0x14, arg)
  | .faultReport c code => some (c, 0x1F, code)
  | _ => none

/-- The frame of a report: sync byte, code, argument, check (R187). -/
def encodeReport (i : Instr) : Option (List Byte) :=
  i.report.map fun r => [0xA5, r.2.1, r.2.2, checkOf [r.2.1, r.2.2]]

/-- The station and value of a reading frame; none for a frame that is discarded (R15, R187). The reserved bits, 7 to 4 of the
station byte and 15 to 10 of the value, are read as 0 (R183). -/
def decodeReading (frame : List Byte) : Option (StationNo × Nat) :=
  match frame with
  | [sync, st, hi, lo, chk] =>
    if sync = 0xC3 ∧ chk = checkOf [st, hi, lo] then
      some (⟨st.toNat % 16, Nat.mod_lt _ (by decide)⟩, (hi.toNat * 256 + lo.toNat) % 1024)
    else none
  | _ => none

/-- The frame of a reading (R187). -/
def encodeReading (st : StationNo) (value : Nat) : List Byte :=
  let body : List Byte := [BitVec.ofNat 8 st.val, BitVec.ofNat 8 (value / 256), BitVec.ofNat 8 value]
  0xC3 :: body ++ [checkOf body]

end Sys2Proof
end

