-- ==== Sys2Proof/Machine/State.lean ====
section
/-! DEFINITION. Everything the LS-412 holds, as plain data, and its value after reset. Each field's docstring names the rule that
gives it. -/

namespace Sys2Proof.Machine

/-- The line states (R3). -/
inductive LineState where
  | config
  | run
  | paused
  | stopped
deriving DecidableEq, Repr

/-- The station classes (R6). -/
inductive StationClass where
  | unused
  | load
  | prewet
  | develop
  | stopBath
  | fixer
  | clearing
  | wash
  | unload
deriving DecidableEq, Repr

/-- What a bay holds (R10). -/
inductive BayState where
  | empty
  | disabled
  | reserved (slot : Slot)
  | occupied (slot : Slot)
deriving DecidableEq, Repr

/-- A bay with its deferred-disable flag (R10). -/
structure Bay where
  state    : BayState := .empty
  deferred : Bool := false
deriving DecidableEq, Repr

/-- A bay named by station and number (R183). -/
structure BayRef where
  station : StationNo
  bay     : BayNo
deriving DecidableEq, Repr

/-- One record of the Station Table with its reset values (R17). -/
structure Station where
  cls          : StationClass := .unused
  bayCount     : Nat := 1
  /-- Bays at and beyond `bayCount` do not exist (R10); they stand EMPTY. -/
  bays         : Vector Bay 4 := Vector.replicate 4 {}
  pattern      : PatternNo := 0
  /-- 0 to 1022, or the fault code 1023, or absent (R13, R14). -/
  latest       : Option Nat := none
  /-- The last value from 0 to 1022 (R13). -/
  heldValue    : Option Nat := none
  age          : Nat := 255
  valid        : Bool := false
  activity     : Nat := 1024
  deficit      : Nat := 0
  exhaust      : Nat := 64
  accumulator  : Nat := 0
  quantum      : Nat := 200
  pump         : Option PumpNo := none
  runLength    : Nat := 16
  restore      : Nat := 24
  pendingRuns  : Nat := 0
  /-- Beats left in the run in progress; none when no run is in progress (R81). -/
  runRemaining : Option Nat := none
  phaseOrigin  : Beat := 0
deriving DecidableEq, Repr

/-- EXACT, TIMED, OPEN (R20). -/
inductive StepKind where
  | exactDose
  | timed
  | openEnded
deriving DecidableEq, Repr

/-- A recipe step (R19). -/
structure Step where
  cls         : StationClass
  pinned      : Option StationNo
  kind        : StepKind
  time        : Nat
  maxOverstay : Nat
  drain       : Nat
deriving DecidableEq, Repr

/-- A recipe bank with its use count (R18, R25). -/
structure Bank where
  steps    : List Step := []
  useCount : Nat := 0
deriving DecidableEq, Repr

/-- The open load area (chapter 2.5). -/
structure LoadArea where
  bank     : BankNo
  total    : Nat
  gathered : List Step
deriving DecidableEq, Repr

/-- The states of a live record; VACANT is the slot without one (R36). `finished` is DONE. -/
inductive HangerState where
  | admitted
  | immersed
  | due
  | inTransit
  | finished
  | faulted
deriving DecidableEq, Repr

/-- Why a record is FAULTED (R34). -/
inductive FaultReason where
  | carriageFault
  | stopDuringMove
  | removed
deriving DecidableEq, Repr

/-- A live hanger record (R34); its marks are in `State.marks`. -/
structure Hanger where
  tag           : Nat
  state         : HangerState
  held          : Bool
  bank          : BankNo
  push          : Int
  area          : Nat
  leg           : Nat
  position      : Option BayRef
  destination   : Option BayRef
  stepStart     : Beat
  overstayNoted : Bool
  dose          : Nat
  fraction      : Nat
  target        : Option Nat
  overshoot     : Option Nat
  provisional   : Bool
  faultReason   : Option FaultReason
deriving DecidableEq, Repr

/-- The classes of a move request (R92). -/
inductive RequestClass where
  | exactDose
  | timed
  | openEnded
  | launch
deriving DecidableEq, Repr

/-- A move request; a destination of none is pending (R92). -/
structure Request where
  slot        : Slot
  cls         : RequestClass
  deadline    : Beat
  source      : BayRef
  destination : Option BayRef
deriving DecidableEq, Repr

/-- The states of a carriage (R110). -/
inductive CarriageState where
  | unplaced
  | parked
  | idle
  | toSource
  | awaitLift
  | lifting
  | draining
  | toDest
  | lowering
  | yielding
  | halted
  | fault
  | disabled
deriving DecidableEq, Repr

/-- The orders of a carriage link (chapter 7.4). -/
inductive Order where
  | goto (station : StationNo)
  | park
  | lift (bay : BayNo)
  | lower (bay : BayNo)
  | halt
deriving DecidableEq, Repr

/-- The positions from `lo` to `hi` that the arbiter allots a carriage (R109). -/
structure Span where
  lo : Int
  hi : Int
deriving DecidableEq, Repr

/-- An order sent and not yet answered, with its timeout beat (R117). -/
structure Outstanding where
  order   : Order
  timeout : Beat
deriving DecidableEq, Repr

/-- A granted request as a carriage carries it out (R109). DEDUCED (log 11): it keeps the request's deadline, with which R103
returns the request to the queue. -/
structure Job where
  slot        : Slot
  cls         : RequestClass
  deadline    : Beat
  source      : BayRef
  destination : BayRef
  phase       : CarriageState
  drainEnd    : Option Beat
deriving DecidableEq, Repr

/-- A carriage record with its reset values (R109, R134). -/
structure Carriage where
  state     : CarriageState := .unplaced
  enabled   : Bool := true
  position  : Option Int := none
  span      : Option Span := none
  job       : Option Job := none
  order     : Option Outstanding := none
  halted    : Option Order := none
  faultCode : Option Nat := none
deriving DecidableEq, Repr

/-- Who stages a channel (R135). -/
inductive ChannelMode where
  | auto
  | manual
  | off
deriving DecidableEq, Repr

/-- An output channel with its reset values (R135, R147); its pin follows the latch. -/
structure Channel where
  mode   : ChannelMode := .off
  enable : Bool := false
  staged : Bool := false
  latch  : Bool := false
deriving DecidableEq, Repr

/-- An entry of the pattern table (R138). -/
structure Pattern where
  initial : Nat
  burst   : Nat
  period  : Nat
deriving DecidableEq, Repr

/-- The thirteen kinds of attention, in the order of their numbers (chapter 11.1). -/
inductive Kind where
  | lineStopped
  | hangerFault
  | carriageFault
  | overshoot
  | overstay
  | provisional
  | sensorStale
  | bayPending
  | unloadFull
  | exhausted
  | replenishBacklog
  | hangerDone
  | recordChanged
deriving DecidableEq, Repr

/-- The six line parameters with their reset values (R171). -/
structure LineParams where
  callLead      : Nat := 40
  tolerance     : Nat := 20
  sensorTimeout : Nat := 64
  travelBase    : Nat := 16
  perStation    : Nat := 12
  liftTimeout   : Nat := 80
deriving DecidableEq, Repr

/-- The results of a response (R165). -/
inductive Result where
  | accepted
  | refused
  | nothing
deriving DecidableEq, Repr

/-- The reasons of a refusal (10.8, R186), in the order of their codes from 1. -/
inductive Reason where
  | badFrame
  | badCommand
  | badForm
  | wrongLineState
  | lineStopped
  | stopInputActive
  | noLoadStation
  | noUnloadStation
  | carriageNotPlaced
  | tableNotEmpty
  | carriageBusy
  | tooManyBays
  | noSuchBay
  | bankInUse
  | loadSequence
  | badStep
  | noSlot
  | duplicateTag
  | emptyBank
  | noStation
  | noLoadBay
  | noRecord
  | wrongState
  | wrongStepKind
  | wrongClass
  | channelInUse
  | badPlacement
  | bayTaken
  | notInService
deriving DecidableEq, Repr

/-- A response: the header fields of R162 and the data. -/
structure Response where
  result    : Result
  echo      : Byte
  reason    : Option Reason
  detail    : Nat
  data      : List Byte
  overrun   : Bool
  discard   : Bool
  lineState : LineState
  sequence  : Byte
deriving DecidableEq, Repr

/-- The response buffer (chapter 10.1). -/
inductive Buffer where
  | empty
  | working (r : Response)
  | ready (r : Response)
deriving DecidableEq, Repr

/-- A frame in progress that an event has overtaken since the host asserted select (R160): it began while the buffer was WORKING with
`r`, which has become READY since (R162, R163); or it began with the buffer `begun`, and a reset has abandoned it when `clocked` bytes
had been shifted out after the buffer state. -/
inductive OpenFrame where
  | begunWorking (r : Response)
  | abandoned (begun : Buffer) (clocked : Nat)
deriving DecidableEq, Repr

/-- For each receiver, whether it waits for two character times of idle line before it accepts a sync byte (R188): every frame begins
after that time, so each event on the line, and a reset, leaves its receiver waiting; the wait ends between events (log 21). -/
structure Receivers where
  link1  : Bool := true
  link2  : Bool := true
  sensor : Bool := true
deriving DecidableEq, Repr

/-- A step that a beat leaves to be taken after it (log 4): an order that expired (R117), a drain that ended (R121), the credit
of a run that is complete (R85). -/
inductive FollowUp where
  | expiry (c : CarriageId)
  | drain (c : CarriageId)
  | credit (st : StationNo)
deriving DecidableEq, Repr

/-- The state of the part. -/
structure State where
  /-- Cycles of the reference clock in this beat period, 0 to 4095 (R1). -/
  prescaler    : Nat
  /-- The beat counter (R1). -/
  beat         : Beat
  lineState    : LineState
  /-- The level of the LINE STOP input: active (R151). -/
  stopActive   : Bool
  stations     : Vector Station 16
  banks        : Vector Bank 32
  /-- The load area; none when closed (chapter 2.5). -/
  loadArea     : Option LoadArea
  /-- F[0] to F[16] (R62). -/
  rates        : Vector Nat 17
  /-- The Hanger Table; none is a vacant slot (R34). -/
  hangers      : Vector (Option Hanger) 48
  /-- Tag and slot of each live record, in rising order of tags (R35). -/
  tagIndex     : List (Nat × Slot)
  /-- The Move Queue, kept in order of slots; R93's order is computed when it is consulted (R92, R93). -/
  queue        : List Request
  carriage1    : Carriage
  carriage2    : Carriage
  channels     : Vector Channel 20
  /-- Entries 1 to 7 of the pattern table (R138). -/
  patterns     : Vector Pattern 7
  /-- For each kind, the subjects that carry its mark, in rising order: slots, stations, carriages 1 and 2, or 0 for the line (R175). -/
  marks        : Vector (List Nat) 13
  levels       : Vector Nat 13
  /-- The current mask M (R177). -/
  mask         : Nat
  /-- The saved masks, the top of the stack first (R177). -/
  maskStack    : List Nat
  params       : LineParams
  buffer       : Buffer
  sequence     : Byte
  bankPointer  : BankNo
  /-- The frame in progress, where an event has overtaken it (R160, R174; log 33); none while there is no frame, or one that finds the
  buffer as it was when select was asserted. -/
  openFrame    : Option OpenFrame
  receivers    : Receivers
  /-- The model's own (log 8): the orders sent on the carriage links in the last step, in order. -/
  sent         : List (CarriageId × Order)
  /-- The model's own (log 8): the bytes the part shifted out in the last frame. -/
  shifted      : List Byte
  /-- The model's own (log 4): what the last beat left to be taken. -/
  due          : List FollowUp
  /-- The model's own (log 5): the index of the next free values. -/
  draws        : Nat
  /-- The commands that wait, first in, first out (log 1). -/
  pending      : List Instr
deriving DecidableEq, Repr

/-- No command of the LS-412 stops the part: a refused host command is answered on the link (R165), a carriage fault is a state of
the carriage (R125). So the model has no faults. -/
inductive Fault where
deriving DecidableEq, Repr

/-- Raised by exec for a command that has no meaning yet; none is left. Safe: the model stops where the hardware goes on. -/
inductive Refusal where
  | notModelled (mnemonic : String)
deriving DecidableEq, Repr

/-- The rate table after reset (R62). -/
def resetRates : Vector Nat 17 :=
  #v[177, 194, 213, 233, 256, 281, 308, 338, 370, 406, 446, 489, 536, 588, 645, 708, 776]

/-- Entries 1 to 7 of the pattern table after reset (R138). -/
def resetPatterns : Vector Pattern 7 :=
  #v[⟨0, 8, 80⟩, ⟨40, 8, 80⟩, ⟨80, 16, 240⟩, ⟨16, 4, 40⟩, ⟨0, 1, 2⟩, ⟨255, 16, 160⟩, ⟨0, 254, 255⟩]

/-- The levels after reset (11.1, R182). -/
def resetLevels : Vector Nat 13 :=
  #v[0, 1, 1, 2, 3, 3, 3, 4, 4, 4, 5, 5, 7]

/-- The machine right after reset, with the LINE STOP input inactive (R1, R3, R17, R33, R57, R62, R108, R134, R147, R171, R174,
R182, R188). DESIGN CHOICE (log 7, log 8, log 33), unsafe: the level of the LINE STOP input, the model's own fields, and no frame in
progress. HALT has been sent on both links (R134). -/
def State.reset : State where
  prescaler := 0
  beat := 0
  lineState := .config
  stopActive := false
  stations := Vector.replicate 16 {}
  banks := Vector.replicate 32 {}
  loadArea := none
  rates := resetRates
  hangers := Vector.replicate 48 none
  tagIndex := []
  queue := []
  carriage1 := {}
  carriage2 := {}
  channels := Vector.replicate 20 {}
  patterns := resetPatterns
  marks := Vector.replicate 13 []
  levels := resetLevels
  mask := 0
  maskStack := []
  params := {}
  buffer := .empty
  sequence := 0
  bankPointer := 0
  openFrame := none
  receivers := {}
  sent := [(.one, .halt), (.two, .halt)]
  shifted := []
  due := []
  draws := 0
  pending := []

end Sys2Proof.Machine
end

