-- ==== Sys2Proof/Machine/Bytes.lean ====
section
/-! DEFINITION. Bytes, numbers and signs: most significant byte first, two's complement (R183), and the signed difference by which
beat numbers are compared (00, chapter 5). -/

namespace Sys2Proof.Machine

/-- A number as a byte. -/
def byte (n : Nat) : Byte := BitVec.ofNat 8 n

/-- Two bytes, most significant first (R183). -/
def be16 (n : Nat) : List Byte := [byte (n / 256), byte n]

/-- Three bytes, most significant first. -/
def be24 (n : Nat) : List Byte := [byte (n / 65536), byte (n / 256), byte n]

/-- Four bytes, most significant first. -/
def be32 (n : Nat) : List Byte := [byte (n / 16777216), byte (n / 65536), byte (n / 256), byte n]

/-- Five bytes, most significant first. -/
def be40 (n : Nat) : List Byte :=
  [byte (n / 4294967296), byte (n / 16777216), byte (n / 65536), byte (n / 256), byte n]

/-- The number two bytes carry. -/
def num16 (hi lo : Byte) : Nat := hi.toNat * 256 + lo.toNat

/-- The number three bytes carry. -/
def num24 (a b c : Byte) : Nat := a.toNat * 65536 + b.toNat * 256 + c.toNat

/-- The two's complement number two bytes carry. -/
def signed16 (hi lo : Byte) : Int := (BitVec.ofNat 16 (num16 hi lo)).toInt

/-- A signed number as two bytes, two's complement. -/
def beSigned16 (n : Int) : List Byte := be16 (BitVec.ofInt 16 n).toNat

/-- Yes is 1 and no is 0 (log 10). -/
def bit (b : Bool) : Nat := if b then 1 else 0

/-- The signed 32-bit difference of two beat numbers: how far `a` is after `b` (00, chapter 5). -/
def beatDiff (a b : Beat) : Int := (a - b).toInt

/-- A beat number some beats after another. -/
def beatPlus (b : Beat) (n : Nat) : Beat := b + BitVec.ofNat 32 n

end Sys2Proof.Machine
end

