-- ==== Sys2Proof/Machine/Codes.lean ====
section
/-! DEFINITION. The codes of R184, R186 and R187, and the bytes that carry a place, a position or an absence (R183). -/

namespace Sys2Proof.Machine

/-- Line state codes (R186). -/
def LineState.code : LineState → Nat
  | .config => 0
  | .run => 1
  | .paused => 2
  | .stopped => 3

/-- Station class codes (R186). -/
def StationClass.code : StationClass → Nat
  | .unused => 0
  | .load => 1
  | .prewet => 2
  | .develop => 3
  | .stopBath => 4
  | .fixer => 5
  | .clearing => 6
  | .wash => 7
  | .unload => 8

/-- The station class a code names (R186). -/
def classOf (b : Byte) : Option StationClass :=
  match b.toNat with
  | 0 => some .unused
  | 1 => some .load
  | 2 => some .prewet
  | 3 => some .develop
  | 4 => some .stopBath
  | 5 => some .fixer
  | 6 => some .clearing
  | 7 => some .wash
  | 8 => some .unload
  | _ => none

/-- Bay state codes (R186). -/
def BayState.code : BayState → Nat
  | .empty => 0
  | .reserved _ => 1
  | .occupied _ => 2
  | .disabled => 3

/-- Hanger state codes; VACANT is 0 (R186). -/
def HangerState.code : HangerState → Nat
  | .admitted => 1
  | .immersed => 2
  | .due => 3
  | .inTransit => 4
  | .finished => 5
  | .faulted => 6

/-- Fault reason codes of the hanger image; 0 is absence (R185). -/
def faultReasonCode : Option FaultReason → Nat
  | none => 0
  | some .carriageFault => 1
  | some .stopDuringMove => 2
  | some .removed => 3

/-- Carriage state codes (R186). -/
def CarriageState.code : CarriageState → Nat
  | .unplaced => 0
  | .parked => 1
  | .idle => 2
  | .toSource => 3
  | .awaitLift => 4
  | .lifting => 5
  | .draining => 6
  | .toDest => 7
  | .lowering => 8
  | .yielding => 9
  | .halted => 10
  | .fault => 11
  | .disabled => 12

/-- Step kind codes (R185). -/
def StepKind.code : StepKind → Nat
  | .exactDose => 0
  | .timed => 1
  | .openEnded => 2

/-- The step kind a code names (R185). -/
def kindOf (b : Byte) : Option StepKind :=
  match b.toNat with
  | 0 => some .exactDose
  | 1 => some .timed
  | 2 => some .openEnded
  | _ => none

/-- Request class codes of READ QUEUE (R185), which rise with the class rank of R93. -/
def RequestClass.code : RequestClass → Nat
  | .exactDose => 0
  | .timed => 1
  | .openEnded => 2
  | .launch => 3

/-- The class of the request that leaves a leg of this kind (R22). -/
def StepKind.requestClass : StepKind → RequestClass
  | .exactDose => .exactDose
  | .timed => .timed
  | .openEnded => .openEnded

/-- Channel mode codes (R186). -/
def ChannelMode.code : ChannelMode → Nat
  | .auto => 0
  | .manual => 1
  | .off => 2

/-- The channel mode a code names (R186). -/
def modeOf (b : Byte) : Option ChannelMode :=
  match b.toNat with
  | 0 => some .auto
  | 1 => some .manual
  | 2 => some .off
  | _ => none

/-- Order codes (R187). -/
def Order.code : Order → Nat
  | .goto _ => 1
  | .park => 2
  | .lift _ => 3
  | .lower _ => 4
  | .halt => 5

/-- The argument byte of an order (R187). -/
def Order.arg : Order → Nat
  | .goto st => st.val
  | .park => 0
  | .lift b => b.val
  | .lower b => b.val
  | .halt => 0

/-- The frame in which an order goes out on its carriage link (R187, R188). -/
def Order.frame (o : Order) : List Byte :=
  [0xA5, byte o.code, byte o.arg, checkOf [byte o.code, byte o.arg]]

/-- The numbers of the attention kinds (11.1). -/
def Kind.number : Kind → Fin 13
  | .lineStopped => 0
  | .hangerFault => 1
  | .carriageFault => 2
  | .overshoot => 3
  | .overstay => 4
  | .provisional => 5
  | .sensorStale => 6
  | .bayPending => 7
  | .unloadFull => 8
  | .exhausted => 9
  | .replenishBacklog => 10
  | .hangerDone => 11
  | .recordChanged => 12

/-- The kinds in the order of their numbers. -/
def allKinds : List Kind :=
  [.lineStopped, .hangerFault, .carriageFault, .overshoot, .overstay, .provisional, .sensorStale, .bayPending, .unloadFull,
    .exhausted, .replenishBacklog, .hangerDone, .recordChanged]

/-- The kind of a number (11.1). -/
def kindNumbered (n : Nat) : Option Kind := allKinds[n]?

/-- What a kind's mark stands on (11.1). -/
inductive Subject where
  | line
  | slot
  | station
  | carriage
deriving DecidableEq, Repr

/-- The subject of each kind (11.1). -/
def Kind.subject : Kind → Subject
  | .lineStopped | .unloadFull => .line
  | .carriageFault => .carriage
  | .sensorStale | .exhausted | .replenishBacklog => .station
  | .hangerFault | .overshoot | .overstay | .provisional | .bayPending | .hangerDone | .recordChanged => .slot

/-- The kinds that stand on a slot, in the order of the marks byte of the hanger image (R185). -/
def hangerKinds : List Kind :=
  [.hangerFault, .overshoot, .overstay, .provisional, .bayPending, .hangerDone, .recordChanged]

/-- Reason codes; 0 is no reason (R184, R186). -/
def Reason.code : Reason → Nat
  | .badFrame => 1
  | .badCommand => 2
  | .badForm => 3
  | .wrongLineState => 4
  | .lineStopped => 5
  | .stopInputActive => 6
  | .noLoadStation => 7
  | .noUnloadStation => 8
  | .carriageNotPlaced => 9
  | .tableNotEmpty => 10
  | .carriageBusy => 11
  | .tooManyBays => 12
  | .noSuchBay => 13
  | .bankInUse => 14
  | .loadSequence => 15
  | .badStep => 16
  | .noSlot => 17
  | .duplicateTag => 18
  | .emptyBank => 19
  | .noStation => 20
  | .noLoadBay => 21
  | .noRecord => 22
  | .wrongState => 23
  | .wrongStepKind => 24
  | .wrongClass => 25
  | .channelInUse => 26
  | .badPlacement => 27
  | .bayTaken => 28
  | .notInService => 29

/-- Result codes (R184). -/
def Result.code : Result → Nat
  | .accepted => 0
  | .refused => 1
  | .nothing => 2

/-- The number of a carriage. -/
def carriageNumber : CarriageId → Nat
  | .one => 1
  | .two => 2

/-- The other carriage. -/
def otherCarriage : CarriageId → CarriageId
  | .one => .two
  | .two => .one

/-- The park of a carriage: beyond either end of the rail (R111). -/
def parkOf : CarriageId → Int
  | .one => -1
  | .two => 16

/-- A place as one byte, with 0xFF for absence (R183). -/
def placeByte : Option BayRef → Byte
  | some r => byte (r.station.val * 16 + r.bay.val)
  | none => 0xFF

/-- A rail position as a byte: position + 1, with 0xFF for unknown (R183). -/
def positionByte : Option Int → Byte
  | some p => byte (p + 1).toNat
  | none => 0xFF

/-- An absent target is 0 (R183). -/
def targetCode (t : Option Nat) : Nat := t.getD 0

/-- An absent overshoot is 0xFFFFFF (R183). -/
def overshootCode (o : Option Nat) : Nat := o.getD 0xFFFFFF

/-- The output channel of a pump (R135). -/
def pumpChannel (p : PumpNo) : ChannelNo := ⟨16 + p.val, by omega⟩

/-- A pump channel as a byte, with 0xFF for none (R183). -/
def pumpByte : Option PumpNo → Byte
  | some p => byte (16 + p.val)
  | none => 0xFF

end Sys2Proof.Machine
end

