-- ==== Sys2Proof/Machine/Operands.lean ====
section
/-! DEFINITION. The operand forms: the modifiers byte (R166, R184), the numbers and codes a payload carries, channel sets, and the
step image of LOAD STEPS (R28, R185). -/

namespace Sys2Proof.Machine

/-- COMMON is bit 7 of the modifiers byte (R184). -/
def isCommon (m : Byte) : Bool := m.toNat.testBit 7

/-- OVERRIDE is bit 6 (R184). -/
def isOverride (m : Byte) : Bool := m.toNat.testBit 6

/-- QUIET is bit 5 (R184). -/
def isQuiet (m : Byte) : Bool := m.toNat.testBit 5

/-- The OVERRIDE bank field, bits 4 to 0 (R184). -/
def overrideBank (m : Byte) : BankNo := ⟨m.toNat % 32, Nat.mod_lt _ (by decide)⟩

/-- The addressed bank: bank 0 under COMMON, the field's bank under OVERRIDE, otherwise the link bank pointer (R23). -/
def addressedBank (m : Byte) (s : State) : BankNo :=
  if isCommon m then 0 else if isOverride m then overrideBank m else s.bankPointer

/-- A number below `n` that a byte carries. -/
def finOf (n : Nat) (b : Byte) : Option (Fin n) :=
  if h : b.toNat < n then some ⟨b.toNat, h⟩ else none

/-- A slot, 0 to 47. -/
def slotOf (b : Byte) : Option Slot := finOf 48 b

/-- A station, 0 to 15. -/
def stationOf (b : Byte) : Option StationNo := finOf 16 b

/-- A carriage, 1 or 2. -/
def carriageOf (b : Byte) : Option CarriageId :=
  match b.toNat with
  | 1 => some .one
  | 2 => some .two
  | _ => none

/-- A rail position in range for the carriage named: -1 to 15 for carriage 1, 0 to 16 for carriage 2, sent as position + 1
(7.7, R183). -/
def positionOf (c : CarriageId) (b : Byte) : Option Int :=
  match c with
  | .one => if b.toNat ≤ 16 then some ((b.toNat : Int) - 1) else none
  | .two => if 1 ≤ b.toNat ∧ b.toNat ≤ 17 then some ((b.toNat : Int) - 1) else none

/-- A pump channel, 16 to 19, or the code for none (R89, R183); the outer none is a bad code. -/
def pumpOf (b : Byte) : Option (Option PumpNo) :=
  if b = 0xFF then some none
  else if 16 ≤ b.toNat then (finOf 4 (b - 16)).map some else none

/-- Whether a channel is in a channel set of three bytes: bit n of byte 0 for channel n, and so on; the four bits beyond channel
19 are not read (R184). -/
def inChannelSet (b0 b1 b2 : Byte) (ch : ChannelNo) : Bool :=
  (b0.toNat + b1.toNat * 256 + b2.toNat * 65536).testBit ch.val

/-- The bytes of the channel set of the channels that `f` names (R184). -/
def channelSetBytes (f : ChannelNo → Bool) : List Byte :=
  let n := ((List.finRange 20).map fun ch => if f ch then 2 ^ ch.val else 0).sum
  [byte n, byte (n / 256), byte (n / 65536)]

/-- The classes a recipe step may have (R19, R28). -/
def isStepClass : StationClass → Bool
  | .prewet | .develop | .stopBath | .fixer | .clearing | .wash => true
  | .unused | .load | .unload => false

/-- The pinned station of a step image: a station, or 0xFF for absence; the outer none is malformed (R28). -/
def pinnedOf (b : Byte) : Option (Option StationNo) :=
  if b = 0xFF then some none else (stationOf b).map some

/-- The step an image of 8 bytes carries; none when the step is malformed (R28). A step of kind EXACT or OPEN is stored with max
overstay 0. -/
def stepOf (image : List Byte) : Option Step :=
  match image with
  | [cls, kind, t1, t0, o1, o0, pin, drain] =>
    match classOf cls, kindOf kind, pinnedOf pin with
    | some c, some k, some p =>
      let time := num16 t1 t0
      let overstay := num16 o1 o0
      if isStepClass c && (k == .exactDose) == (c == .develop) && 1 ≤ time && time ≤ 16383
          && !(k == .timed && 16383 < overstay) then
        some { cls := c, pinned := p, kind := k, time := time, maxOverstay := if k = .timed then overstay else 0,
               drain := drain.toNat }
      else none
    | _, _, _ => none
  | _ => none

/-- A payload cut into step images of 8 bytes (R26). -/
def stepImages : List Byte → List (List Byte)
  | a :: b :: c :: d :: e :: f :: g :: h :: rest => [a, b, c, d, e, f, g, h] :: stepImages rest
  | _ => []

end Sys2Proof.Machine
end

