-- ==== Sys2Proof/Machine/Ops.lean ====
section
/-! DEFINITION. Named reads and writes of the state: stations, bays, banks, hanger records, carriages, channels, and the recipe a
hanger reads through its leg (R22). -/

namespace Sys2Proof.Machine

/-- Every slot, in rising order. -/
def allSlots : List Slot := List.finRange 48

/-- Every station, in rising order. -/
def allStations : List StationNo := List.finRange 16

/-- Every channel, in rising order. -/
def allChannels : List ChannelNo := List.finRange 20

/-- Both carriages, carriage 1 first. -/
def bothCarriages : List CarriageId := [.one, .two]

def State.setStation (st : StationNo) (x : Station) (s : State) : State :=
  { s with stations := s.stations.set st.val x }

def State.setBank (b : BankNo) (x : Bank) (s : State) : State :=
  { s with banks := s.banks.set b.val x }

def State.setHanger (slot : Slot) (x : Option Hanger) (s : State) : State :=
  { s with hangers := s.hangers.set slot.val x }

def State.setChannel (ch : ChannelNo) (x : Channel) (s : State) : State :=
  { s with channels := s.channels.set ch.val x }

/-- The record of a carriage (R109). -/
def State.carriage (s : State) : CarriageId → Carriage
  | .one => s.carriage1
  | .two => s.carriage2

def State.setCarriage (c : CarriageId) (x : Carriage) (s : State) : State :=
  match c with
  | .one => { s with carriage1 := x }
  | .two => { s with carriage2 := x }

/-- The bay a place names (R10). -/
def State.bayAt (r : BayRef) (s : State) : Bay := s.stations[r.station].bays[r.bay]

def State.setBay (r : BayRef) (x : Bay) (s : State) : State :=
  s.setStation r.station { s.stations[r.station] with bays := s.stations[r.station].bays.set r.bay.val x }

/-- A bay holds a hanger (R10). -/
def Bay.isOccupied (b : Bay) : Bool :=
  match b.state with
  | .occupied _ => true
  | _ => false

/-- Some bay of the station is OCCUPIED (R137, R139). -/
def Station.anyOccupied (x : Station) : Bool := x.bays.toList.any Bay.isOccupied

/-- A bay that exists and is EMPTY (R10). -/
def Station.bayFree (x : Station) (b : BayNo) : Bool := b.val < x.bayCount && x.bays[b].state == .empty

/-- The lowest-numbered EMPTY bay of a station (R41, R95). -/
def Station.firstFree (x : Station) : Option BayNo := (List.finRange 4).find? x.bayFree

/-- Some station holds this class (R4, R40). -/
def State.hasClass (c : StationClass) (s : State) : Bool := s.stations.toList.any fun x => x.cls == c

/-- The number of live records (R170). -/
def State.liveCount (s : State) : Nat := s.hangers.toList.countP Option.isSome

/-- The steps of the bank a hanger names (R22). -/
def State.stepsOf (h : Hanger) (s : State) : List Step := s.banks[h.bank].steps

/-- The step of the leg the hanger is on: step k on leg k, none on leg 0 and on the unload leg (R22). -/
def State.legStep (h : Hanger) (s : State) : Option Step :=
  if h.leg = 0 then none else (s.stepsOf h)[h.leg - 1]?

/-- The kind of the leg the hanger is on (R22). -/
def State.legKind (h : Hanger) (s : State) : Option StepKind := (s.legStep h).map Step.kind

/-- A carriage holds the slot's request as its job (R38). -/
def State.hasJob (slot : Slot) (s : State) : Bool :=
  bothCarriages.any fun c => match (s.carriage c).job with
    | some j => j.slot == slot
    | none => false

/-- The request of a slot in the Move Queue, if it has one (R92). -/
def State.requestOf (slot : Slot) (s : State) : Option Request := s.queue.find? fun r => r.slot == slot

/-- A carriage that is IDLE or PARKED (R110). -/
def Carriage.isFree (x : Carriage) : Bool := x.state == .idle || x.state == .parked

end Sys2Proof.Machine
end

