-- ==== Sys2Proof/Machine/Flags.lean ====
section
/-! DEFINITION. The attention marks (R175), the attention line (R176), the choice ACK makes (R177), and RECORD_CHANGED, which every
write of a hanger record goes through (R37). -/

namespace Sys2Proof.Machine

/-- A subject put into a set held in rising order; one already there stays (R175). -/
def insertSubject (n : Nat) : List Nat → List Nat
  | [] => [n]
  | x :: xs => if n < x then n :: x :: xs else if n = x then x :: xs else x :: insertSubject n xs

/-- The subjects that carry a kind's mark (R175). -/
def State.marked (k : Kind) (s : State) : List Nat := s.marks[k.number]

/-- The mark of a kind stands on a subject (R175). -/
def State.hasMark (k : Kind) (n : Nat) (s : State) : Bool := (s.marked k).contains n

/-- Set a mark; one already set stays set (R175). -/
def State.mark (k : Kind) (n : Nat) (s : State) : State :=
  { s with marks := s.marks.set k.number.val (insertSubject n (s.marked k)) }

/-- Clear a mark; one already clear stays clear (R175). -/
def State.unmark (k : Kind) (n : Nat) (s : State) : State :=
  { s with marks := s.marks.set k.number.val ((s.marked k).filter fun x => x != n) }

/-- Clear every mark of a slot (R43). -/
def State.unmarkSlot (slot : Slot) (s : State) : State :=
  hangerKinds.foldl (fun s k => s.unmark k slot.val) s

/-- A kind is pending while at least one subject carries its mark (R175). -/
def State.kindPending (k : Kind) (s : State) : Bool := !(s.marked k).isEmpty

/-- The level of a kind (R176). -/
def State.levelOf (k : Kind) (s : State) : Nat := s.levels[k.number]

/-- The pending kinds with a level below M, in the order of their numbers (R176, R177). -/
def State.calling (s : State) : List Kind := allKinds.filter fun k => s.kindPending k && s.levelOf k < s.mask

/-- The attention line is asserted while some pending kind has a level below M (R176). -/
def State.attention (s : State) : Bool := !s.calling.isEmpty

/-- Of two kinds, the one with the lower level; the first stays on a tie, so that the lowest kind number wins (R177). -/
def State.moreUrgent (s : State) (best : Option Kind) (k : Kind) : Option Kind :=
  match best with
  | none => some k
  | some b => if s.levelOf k < s.levelOf b then some k else some b

/-- The kind ACK takes: the lowest level, and among kinds of one level the lowest number (R177). -/
def State.mostUrgent (s : State) : Option Kind := s.calling.foldl s.moreUrgent none

/-- Two records differ in state, leg, held flag or position: the changes that set RECORD_CHANGED (R37). -/
def recordChanges (old new : Hanger) : Bool :=
  old.state != new.state || old.leg != new.leg || old.held != new.held || old.position != new.position

/-- Write a record, setting RECORD_CHANGED when its state, leg, held flag or position changes, or when the slot was vacant (R37). -/
def State.putHanger (slot : Slot) (h : Hanger) (s : State) : State :=
  let t := s.setHanger slot (some h)
  match s.hangers[slot] with
  | some old => if recordChanges old h then t.mark .recordChanged slot.val else t
  | none => t.mark .recordChanged slot.val

end Sys2Proof.Machine
end

