-- ==== Sys2Proof/Machine/Channels.lean ====
section
/-! DEFINITION. Operations on the output channels: staging and latching (R136), agitation (R137, R138), the valve interlock (R140),
pump staging (R141), and the end of a pump run cut short (R87). -/

namespace Sys2Proof.Machine

/-- The agitation valve of a station: channel n serves station n (R135). -/
def valveOf (st : StationNo) : ChannelNo := ⟨st.val, by omega⟩

/-- A channel staged off, with its latch off at once (R136). -/
def Channel.silenced (x : Channel) : Channel := { x with staged := false, latch := false }

/-- Stage a channel off and turn its latch off, if it is in AUTO (R136, R140). -/
def State.silenceAuto (ch : ChannelNo) (s : State) : State :=
  if s.channels[ch].mode = .auto then s.setChannel ch s.channels[ch].silenced else s

/-- The value the pattern table gives an entry at an offset; entry 0 stages off at every offset (R138). -/
def patternOn (table : Vector Pattern 7) (entry : PatternNo) (k : Nat) : Bool :=
  if entry = 0 then false
  else match table[entry.val - 1]? with
    | none => false
    | some p => k < p.initial || (k - p.initial) % p.period < p.burst

/-- A phase in which a hoist is in motion (R140). -/
def CarriageState.hoisting (st : CarriageState) : Bool := st == .lifting || st == .lowering

/-- A carriage holds a station under the valve interlock (R140). -/
def Carriage.interlocks (x : Carriage) (st : StationNo) : Bool :=
  x.position == some (st.val : Int) &&
    (x.state.hoisting ||
      ((x.state == .halted || x.state == .fault) && match x.job with
        | some j => j.phase.hoisting
        | none => false))

/-- A valve channel in AUTO at the restaging of beat number `s.beat` (R137). -/
def State.valveStaged (st : StationNo) (s : State) : Bool :=
  let x := s.stations[st]
  x.pattern != 0 && x.anyOccupied && !(s.carriage1.interlocks st) && !(s.carriage2.interlocks st)
    && patternOn s.patterns x.pattern (s.beat - x.phaseOrigin - 1).toNat

/-- The station that holds a pump (R141, R146). -/
def State.pumpOwner (p : PumpNo) (s : State) : Option StationNo :=
  allStations.find? fun st => s.stations[st].pump == some p

/-- What a channel's block stages at a beat: the valve's pattern, or whether the pump's station has a run in progress at this
beat; `running` holds the pumps of those runs (R137, R141). -/
def State.blockStaged (running : List PumpNo) (ch : ChannelNo) (s : State) : Bool :=
  if h : ch.val < 16 then s.valveStaged ⟨ch.val, h⟩
  else running.contains ⟨ch.val - 16, by omega⟩

/-- One channel's restaging and transfer at a beat (R136). -/
def State.transferred (running : List PumpNo) (ch : ChannelNo) (s : State) : Channel :=
  let x := s.channels[ch]
  let staged := match x.mode with
    | .auto => s.blockStaged running ch
    | .manual => x.staged
    | .off => false
  { x with staged := staged, latch := x.enable && staged && !s.stopActive }

/-- The transfer of every channel at a beat (R136). -/
def State.transfer (running : List PumpNo) (s : State) : State :=
  { s with channels := Vector.ofFn fun ch => s.transferred running ch }

/-- A run in progress ends short: no credit, its replenishment goes back to the pending count or is dropped with REPLENISH_BACKLOG
when the count stands at 3, and the channel is staged off (R87, R141). -/
def State.cutRunShort (st : StationNo) (s : State) : State :=
  let x := s.stations[st]
  match x.runRemaining with
  | none => s
  | some _ =>
    let t := if x.pendingRuns < 3
      then s.setStation st { x with runRemaining := none, pendingRuns := x.pendingRuns + 1 }
      else (s.setStation st { x with runRemaining := none }).mark .replenishBacklog st.val
    match x.pump with
    | some p => t.silenceAuto (pumpChannel p)
    | none => t

end Sys2Proof.Machine
end

