-- ==== Sys2Proof/Machine/Dose.lean ====
section
/-! DEFINITION. The arithmetic of the Dose Engine: targets (R61), rates (R63, R64), the increment of a beat (R69), the call margin
and deadline (R71, R72), and the overshoot (R75, R76). -/

namespace Sys2Proof.Machine

/-- The target of an EXACT leg: (time × 16 × (100 + push) + 50) div 100 (R61). -/
def targetDose (time : Nat) (push : Int) : Nat := ((time : Int) * 16 * (100 + push) + 50).toNat / 100

/-- A temperature value clamped to 256..512 (R64). -/
def clampTemperature (t : Nat) : Nat := max 256 (min 512 t)

/-- The rate of a temperature value: clamped, split and interpolated (R64). -/
def rateAt (table : Vector Nat 17) (t : Nat) : Nat :=
  let c := clampTemperature t
  let idx := (c - 256) / 16
  let frac := (c - 256) % 16
  let lo := table[idx]?.getD 0
  let hi := table[idx + 1]?.getD 0
  if idx = 16 then lo else (lo * (16 - frac) + hi * frac) / 16

/-- The rate F of a station and whether the temperature makes the increment provisional (R63). -/
def stationRate (table : Vector Nat 17) (x : Station) : Nat × Bool :=
  match x.heldValue with
  | none => (256, true)
  | some v => (rateAt table v, !x.valid || clampTemperature v != v)

/-- N = 2 × F × A, the development of one beat in units of 1/262,144 DU (R69). -/
def beatYield (table : Vector Nat 17) (x : Station) : Nat := 2 * (stationRate table x).1 * x.activity

/-- An increment is provisional when the temperature is clamped, not valid or absent, or a deficit stands (R70). -/
def incrementProvisional (table : Vector Nat 17) (x : Station) : Bool := (stationRate table x).2 || 0 < x.deficit

/-- The dose and fraction after an increment of N (R69). -/
def incremented (dose fraction n : Nat) : Nat × Nat :=
  (min 16777215 (dose + (fraction + n) / 262144), (fraction + n) % 262144)

/-- The call point: target − dose is within the margin (N × call lead) div 262,144, or the dose is at the target (R71). -/
def atCallPoint (target dose n callLead : Nat) : Bool := target ≤ dose + n * callLead / 262144

/-- The deadline of the request lodged at a call point (R72). -/
def callDeadline (now : Beat) (target dose n : Nat) : Beat :=
  if target ≤ dose then now else beatPlus now (((target - dose) * 262144 + n - 1) / n)

/-- The overshoot a tolerance allows (R76). -/
def overshootAllowance (target tolerance : Nat) : Nat := target * tolerance / 1000

/-- A record is developing: IMMERSED or DUE on a leg of kind EXACT (R68). -/
def State.developing (h : Hanger) (s : State) : Bool :=
  (h.state == .immersed || h.state == .due) && s.legKind h == some .exactDose

/-- The dose of a slot's record stands at or above its target (R73). -/
def State.doseReached (slot : Slot) (s : State) : Bool :=
  match s.hangers[slot] with
  | none => true
  | some h => match h.target with
    | none => true
    | some t => t ≤ h.dose

/-- What a LIFT order does to the record: IN_TRANSIT, its position absent, and on an EXACT leg the overshoot measured (R50, R75). -/
def State.liftedHanger (h : Hanger) (s : State) : Hanger :=
  { h with
    state := .inTransit
    position := none
    overshoot := if s.legKind h = some .exactDose then h.target.map (h.dose - ·) else h.overshoot }

/-- The overshoot of the leg a LIFT order ends is above the allowance (R76). -/
def State.overshoots (h : Hanger) (s : State) : Bool :=
  s.legKind h == some .exactDose && match h.target with
    | some t => overshootAllowance t s.params.tolerance < h.dose - t
    | none => false

/-- The LIFT order reaches the record of a slot (R50, R75, R76). -/
def State.liftRecord (slot : Slot) (s : State) : State :=
  match s.hangers[slot] with
  | none => s
  | some h =>
    let t := s.putHanger slot (s.liftedHanger h)
    if s.overshoots h then t.mark .overshoot slot.val else t

end Sys2Proof.Machine
end

