-- ==== Sys2Proof/Machine/Orders.lean ====
section
/-! DEFINITION. Orders to the carriage drivers (R115, R117) and the advance of a job from its arrival at the source to its LOWER
order (R119 to R122), with the "target reached" signal (R73, R74). -/

namespace Sys2Proof.Machine

/-- The distance from a carriage's position to a rail position, without sign (R117). -/
def railDistance (p : Option Int) (q : Int) : Nat :=
  match p with
  | some x => (x - q).natAbs
  | none => 0

/-- The allowance of an order sent by a carriage (R117); HALT has no timeout. -/
def State.allowance (c : CarriageId) (o : Order) (s : State) : Nat :=
  match o with
  | .goto st => s.params.travelBase + s.params.perStation * railDistance (s.carriage c).position st.val
  | .park => s.params.travelBase + s.params.perStation * railDistance (s.carriage c).position (parkOf c)
  | .lift _ => s.params.liftTimeout
  | .lower _ => s.params.liftTimeout
  | .halt => 0

/-- Send an order other than HALT: it becomes outstanding with its timeout beat (R115, R117). -/
def State.sendOrder (c : CarriageId) (o : Order) (s : State) : State :=
  { s.setCarriage c { s.carriage c with order := some ⟨o, beatPlus s.beat (s.allowance c o)⟩ } with
    sent := s.sent ++ [(c, o)] }

/-- A carriage enters a state of its job, which becomes the job's phase (R109). -/
def State.advance (c : CarriageId) (st : CarriageState) (s : State) : State :=
  s.setCarriage c { s.carriage c with state := st, job := (s.carriage c).job.map fun j => { j with phase := st } }

/-- A job sends LIFT: the carriage enters LIFTING, the record is lifted, and the valve interlock begins (R120, R140). -/
def State.liftOrder (c : CarriageId) (s : State) : State :=
  match (s.carriage c).job with
  | none => s
  | some j =>
    (((s.advance c .lifting).sendOrder c (.lift j.source.bay)).liftRecord j.slot).silenceAuto (valveOf j.source.station)

/-- A job sends LOWER: the carriage enters LOWERING and the valve interlock begins (R122, R140). -/
def State.lowerOrder (c : CarriageId) (s : State) : State :=
  match (s.carriage c).job with
  | none => s
  | some j =>
    ((s.advance c .lowering).sendOrder c (.lower j.destination.bay)).silenceAuto (valveOf j.destination.station)

/-- At the end of draining: GOTO destination, or LOWER where the carriage already stands over it (R122). -/
def State.goOn (c : CarriageId) (s : State) : State :=
  match (s.carriage c).job with
  | none => s
  | some j =>
    let t := s.setCarriage c { s.carriage c with job := some { j with drainEnd := none } }
    if (s.carriage c).position = some (j.destination.station.val : Int) then t.lowerOrder c
    else (t.advance c .toDest).sendOrder c (.goto j.destination.station)

/-- Over the source bay: an EXACT job whose dose is below target awaits it, every other job lifts (R119). -/
def State.liftOrAwait (c : CarriageId) (s : State) : State :=
  match (s.carriage c).job with
  | none => s
  | some j =>
    if j.cls = .exactDose ∧ s.doseReached j.slot = false then s.advance c .awaitLift else s.liftOrder c

/-- The carriage waits over the bay of this slot with the dose at or above the target. -/
def State.signalReady (c : CarriageId) (slot : Slot) (s : State) : Bool :=
  (s.carriage c).state == .awaitLift && (match (s.carriage c).job with
    | some j => j.slot == slot
    | none => false) && s.doseReached slot

/-- The "target reached" signal to a carriage in AWAIT_LIFT over a slot, withheld while the line is STOPPED (R73, R74, R154). -/
def State.signalCarriage (slot : Slot) (c : CarriageId) (s : State) : State :=
  if s.lineState ≠ .stopped ∧ s.signalReady c slot = true then s.liftOrder c else s

/-- The signal to whichever carriage waits over the slot. -/
def State.signal (slot : Slot) (s : State) : State :=
  (s.signalCarriage slot .one).signalCarriage slot .two

end Sys2Proof.Machine
end

