-- ==== Sys2Proof/Machine/Arbiter.lean ====
section
/-! DEFINITION. The order of the Move Queue (R93) and the Rail Arbiter: spans (R111, R112), grants (R114, R118) and yields (R114,
R124). -/

namespace Sys2Proof.Machine

/-- One request stands ahead of another: class rank, then deadline by its signed difference from the current beat, then slot
(R93). -/
def requestAhead (now : Beat) (a b : Request) : Bool :=
  if a.cls.code ≠ b.cls.code then a.cls.code < b.cls.code
  else if beatDiff a.deadline now ≠ beatDiff b.deadline now then beatDiff a.deadline now < beatDiff b.deadline now
  else a.slot < b.slot

/-- A request put in its place in a list that stands in the order of R93. -/
def placeRequest (now : Beat) (r : Request) : List Request → List Request
  | [] => [r]
  | x :: xs => if requestAhead now r x then r :: x :: xs else x :: placeRequest now r xs

/-- The Move Queue in the order of R93, as it stands when it is consulted. -/
def State.queueOrder (s : State) : List Request := s.queue.foldr (placeRequest s.beat) []

/-- A request put into the queue, which is kept in order of slots. No two requests share a slot (R93): one of this slot, which no lodging
finds there, would give way (log 26). -/
def insertRequest (r : Request) : List Request → List Request
  | [] => [r]
  | x :: xs => if r.slot < x.slot then r :: x :: xs else if r.slot = x.slot then r :: xs else x :: insertRequest r xs

/-- The least span over a position, a source and a destination (R112). -/
def hull3 (p s d : Int) : Span := ⟨min p (min s d), max p (max s d)⟩

/-- The least span over a source and a destination (R111). -/
def hull2 (s d : Int) : Span := ⟨min s d, max s d⟩

/-- A span for carriage `c` keeps the order of R111 against the other carriage's span (R112). -/
def State.spanClear (c : CarriageId) (x : Span) (s : State) : Bool :=
  match c with
  | .one => match s.carriage2.span with
    | none => true
    | some o => x.hi < o.lo
  | .two => match s.carriage1.span with
    | none => true
    | some o => o.hi < x.lo

/-- The span a carriage would need to serve a source and a destination, from its position (R112). -/
def Carriage.neededSpan (x : Carriage) (src dst : StationNo) : Option Span :=
  x.position.map fun p => hull3 p src.val dst.val

/-- A free carriage could take a request with this source and destination (R112). -/
def State.couldTake (c : CarriageId) (src dst : StationNo) (s : State) : Bool :=
  (s.carriage c).isFree && match (s.carriage c).neededSpan src dst with
    | some x => s.spanClear c x
    | none => false

/-- The carriage a request is granted to: the one that could take it, or of two the nearer to the source, carriage 1 when both are
equally near (R114). -/
def State.taker (src dst : StationNo) (s : State) : Option CarriageId :=
  if s.couldTake .one src dst then
    if s.couldTake .two src dst ∧
        railDistance s.carriage2.position src.val < railDistance s.carriage1.position src.val then some .two
    else some .one
  else if s.couldTake .two src dst then some .two
  else none

/-- A grant: the request leaves the queue and becomes the carriage's job; GOTO source goes out, or the arrival is taken at once
where the carriage already stands there (R118, R119). -/
def State.grant (c : CarriageId) (r : Request) (d : BayRef) (s : State) : State :=
  let x := s.carriage c
  let job : Job := { slot := r.slot, cls := r.cls, deadline := r.deadline, source := r.source, destination := d,
                     phase := .toSource, drainEnd := none }
  let t := { s with queue := s.queue.filter fun q => q.slot != r.slot }
  if x.position = some (r.source.station.val : Int) then
    (t.setCarriage c { x with job := some job, span := some (hull2 r.source.station.val d.station.val) }).liftOrAwait c
  else
    (t.setCarriage c { x with state := .toSource, job := some job,
                              span := x.neededSpan r.source.station d.station }).sendOrder c (.goto r.source.station)

/-- The arbiter considers one request: a request whose destination is resolved is granted where a free carriage could take it
(R114). -/
def State.consider (s : State) (r : Request) : State :=
  match r.destination with
  | none => s
  | some d => match s.taker r.source.station d.station with
    | none => s
    | some c => s.grant c r d

/-- A carriage is sent to its park (R124). -/
def State.yieldCarriage (c : CarriageId) (s : State) : State :=
  let x := s.carriage c
  match x.position with
  | none => s
  | some p =>
    (s.setCarriage c { x with state := .yielding, span := some (hull2 p (parkOf c)) }).sendOrder c .park

/-- The yield test for a carriage still free: the first request with a destination, blocked by the other carriage's span, sends
that carriage to its park if it is IDLE (R114). -/
def State.yieldTest (c : CarriageId) (s : State) : State :=
  if (s.carriage c).isFree ∧ (s.carriage (otherCarriage c)).state = .idle then
    match s.queueOrder.find? fun r => r.destination.isSome with
    | some r => match r.destination with
      | some d => if s.couldTake c r.source.station d.station then s else s.yieldCarriage (otherCarriage c)
      | none => s
    | none => s
  else s

/-- An arbitration, which acts only while the line is RUN: grants in the order of the queue, then a yield, carriage 1's test
first (R113, R114). -/
def State.arbitrate (s : State) : State :=
  if s.lineState = .run then ((s.queueOrder.foldl State.consider s).yieldTest .one).yieldTest .two else s

end Sys2Proof.Machine
end

