-- ==== Sys2Proof/Machine/Lodging.lean ====
section
/-! DEFINITION. The Move Queue's choices: lodging a request with its destination (R94 to R97), a bay that leaves use and is offered
(R11, R99), and the removal and return of requests (R102, R103). -/

namespace Sys2Proof.Machine

/-- A station is a candidate for the hanger's next leg: the pinned station alone, every station of the next step's class, or every
UNLOAD station after the last step (R95). -/
def State.isCandidate (h : Hanger) (st : StationNo) (s : State) : Bool :=
  match (s.stepsOf h)[h.leg]? with
  | some k => match k.pinned with
    | some p => st == p
    | none => s.stations[st].cls == k.cls
  | none => h.leg == (s.stepsOf h).length && s.stations[st].cls == .unload

/-- The hanger is leaving the last step of its bank, for an UNLOAD station (R97). -/
def State.leavesLastStep (h : Hanger) (s : State) : Bool := h.leg == (s.stepsOf h).length

/-- The distance between two stations, without sign (R95). -/
def stationDistance (a b : StationNo) : Nat := ((a.val : Int) - b.val).natAbs

/-- Of two candidate stations, the nearer to the source; the first, lower-numbered one on a tie (R95). -/
def nearerStation (src : StationNo) (best : Option StationNo) (st : StationNo) : Option StationNo :=
  match best with
  | none => some st
  | some b => if stationDistance st src < stationDistance b src then some st else some b

/-- The destination chosen at lodging: the nearest candidate station with an EMPTY bay, and its lowest-numbered one (R95); none
leaves the request pending (R96). -/
def State.chooseBay (h : Hanger) (src : StationNo) (s : State) : Option BayRef :=
  let candidates := allStations.filter fun st => s.isCandidate h st && (s.stations[st].firstFree).isSome
  match candidates.foldl (nearerStation src) none with
  | none => none
  | some st => s.stations[st].firstFree.map fun b => ⟨st, b⟩

/-- A bay becomes RESERVED by a slot, and the record's destination (R95, R99). -/
def State.reserve (slot : Slot) (h : Hanger) (d : BayRef) (s : State) : State :=
  (s.setBay d { s.bayAt d with state := .reserved slot }).putHanger slot { h with destination := some d }

/-- Lodge a request for a slot: its destination is resolved, and then arbitration runs, or left pending with BAY_PENDING, and with
UNLOAD_FULL for an unload-leg request (R94 to R97). -/
def State.lodge (slot : Slot) (cls : RequestClass) (deadline : Beat) (s : State) : State :=
  match s.hangers[slot] with
  | none => s
  | some h => match h.position with
    | none => s
    | some src => match s.chooseBay h src.station with
      | some d =>
        let t := s.reserve slot h d
        State.arbitrate { t with queue := insertRequest ⟨slot, cls, deadline, src, some d⟩ t.queue }
      | none =>
        let t := { s with queue := insertRequest ⟨slot, cls, deadline, src, none⟩ s.queue }.mark .bayPending slot.val
        if s.leavesLastStep h then t.mark .unloadFull 0 else t

/-- A request is pending and its hanger leaves its last step (R97). -/
def State.unloadPending (s : State) : Bool :=
  s.queue.any fun r => r.destination == none && match s.hangers[r.slot] with
    | some h => s.leavesLastStep h
    | none => false

/-- UNLOAD_FULL is cleared where the event leaves no unload-leg request pending; `was` says that the event took a pending
unload-leg request (R97, R99, R102). -/
def State.settleUnloadFull (was : Bool) (s : State) : State :=
  if was && !s.unloadPending then s.unmark .unloadFull 0 else s

/-- A pending request fits a bay of a station (R99). -/
def State.requestFits (st : StationNo) (s : State) (r : Request) : Bool :=
  r.destination == none && match s.hangers[r.slot] with
    | some h => s.isCandidate h st
    | none => false

/-- Offer an EMPTY bay to the pending requests in the order of the queue; the first that fits takes it and is handed to the
arbiter (R99). -/
def State.offerBay (s : State) (d : BayRef) : State :=
  if (s.bayAt d).state ≠ .empty then s
  else match s.queueOrder.find? (s.requestFits d.station) with
    | none => s
    | some r => match s.hangers[r.slot] with
      | none => s
      | some h =>
        let t := (s.reserve r.slot h d).unmark .bayPending r.slot.val
        let u := { t with queue := t.queue.map fun (q : Request) =>
                              if q.slot = r.slot then { q with destination := some d } else q }
        (u.settleUnloadFull (u.leavesLastStep h)).arbitrate

/-- A bay leaves use: EMPTY, or DISABLED with its flag cleared when the flag is set (R11). -/
def Bay.vacated (b : Bay) : Bay := if b.deferred then ⟨.disabled, false⟩ else ⟨.empty, false⟩

/-- The place of a bay in the order of offers: lower station first, then lower bay (R11). -/
def placeKey (d : BayRef) : Nat := d.station.val * 4 + d.bay.val

/-- Two bays in the order of offers (R11). -/
def inOfferOrder : List BayRef → List BayRef
  | [a, b] => if placeKey b < placeKey a then [b, a] else [a, b]
  | ds => ds

/-- Bays that leave use as effects of one event; those that become EMPTY are offered in turn (R11, R99). -/
def State.releaseBays (ds : List BayRef) (s : State) : State :=
  let offered := (inOfferOrder ds).filter fun d => !(s.bayAt d).deferred
  offered.foldl State.offerBay (ds.foldl (fun s d => s.setBay d (s.bayAt d).vacated) s)

/-- Remove a slot's request from the queue, with its BAY_PENDING mark (R102). -/
def State.dropRequest (slot : Slot) (s : State) : State :=
  match s.requestOf slot with
  | none => s
  | some r =>
    let t := { s with queue := s.queue.filter fun q => q.slot != slot }.unmark .bayPending slot.val
    t.settleUnloadFull (r.destination == none && match s.hangers[slot] with
      | some h => s.leavesLastStep h
      | none => false)

/-- A job's request returns to the queue with the fields it left with, and is handed to the arbiter (R103, R126). -/
def State.returnRequest (j : Job) (s : State) : State :=
  State.arbitrate { s with queue := insertRequest ⟨j.slot, j.cls, j.deadline, j.source, some j.destination⟩ s.queue }

end Sys2Proof.Machine
end

