-- ==== Sys2Proof/Machine/Bath.lean ====
section
/-! DEFINITION. The Bath Activity Unit: the charge of a lowering (R82), the replenishments it calls for (R83), pump runs (R84, R85)
and their credit (R86). -/

namespace Sys2Proof.Machine

/-- The loss of a lowering: the area's share, rounded to the nearest unit, half up (R82). -/
def chargeLoss (area exhaust : Nat) : Nat := (area * exhaust + 512) / 1024

/-- A charge that reaches the floor (R82). DEDUCED (log 37), unsafe: by step 2 of R82 a charge with loss 0 into a bath at its floor is
none, so that it sets no EXHAUSTED mark, although R91 and R180 have the mark set again at a lowering that finds the bath at its floor. -/
def reachesFloor (x : Station) (loss : Nat) : Bool := x.activity < 512 + loss

/-- The activity and deficit after a loss (R82). -/
def Station.charged (x : Station) (loss : Nat) : Station :=
  if reachesFloor x loss then
    { x with activity := 512, deficit := min 65535 (x.deficit + (loss - (x.activity - 512))) }
  else { x with activity := x.activity - loss }

/-- The accumulator after an area is added and the replenishments called for are subtracted (R83). -/
def Station.accumulated (x : Station) (area : Nat) : Station :=
  { x with
    accumulator := (x.accumulator + area) % x.quantum
    pendingRuns := min 3 (x.pendingRuns + (x.accumulator + area) / x.quantum) }

/-- A replenishment called for is dropped, the pending count standing at 3 (R83). -/
def dropsCall (x : Station) (area : Nat) : Bool := 3 < x.pendingRuns + (x.accumulator + area) / x.quantum

/-- A lowering of a film area into a DEVELOP station charges its bath and may call for replenishment (R82, R83). -/
def State.chargeBath (st : StationNo) (area : Nat) (s : State) : State :=
  let x := s.stations[st]
  if x.cls = .develop then
    let loss := chargeLoss area x.exhaust
    let t := s.setStation st ((x.charged loss).accumulated area)
    let u := if reachesFloor x loss then t.mark .exhausted st.val else t
    if dropsCall x area then u.mark .replenishBacklog st.val else u
  else s

/-- The activity and deficit after a credit: first against the deficit, then to the activity, clamped at 1024 (R86). -/
def Station.credited (x : Station) : Station :=
  if x.restore ≤ x.deficit then { x with deficit := x.deficit - x.restore }
  else { x with activity := min 1024 (x.activity + (x.restore - x.deficit)), deficit := 0 }

/-- The credit of a complete run; EXHAUSTED is cleared when it brings the deficit from above 0 to 0 (R86). -/
def State.creditBath (st : StationNo) (s : State) : State :=
  let x := s.stations[st]
  let t := s.setStation st x.credited
  if 0 < x.deficit ∧ x.credited.deficit = 0 then t.unmark .exhausted st.val else t

/-- The conditions under which a station starts a run at a beat (R84). -/
def State.runStarts (st : StationNo) (s : State) : Bool :=
  let x := s.stations[st]
  x.cls == .develop && x.runRemaining.isNone && 0 < x.pendingRuns && !s.stopActive && match x.pump with
    | some p => s.channels[pumpChannel p].mode == .auto && s.channels[pumpChannel p].enable
    | none => false

/-- A station at the start of a beat's pump work: a run starts where it may (R84). -/
def State.startedStation (st : StationNo) (s : State) : Station :=
  let x := s.stations[st]
  if s.runStarts st then { x with pendingRuns := x.pendingRuns - 1, runRemaining := some x.runLength } else x

/-- A station has a run in progress at this beat, its first beat included (R85). -/
def Station.running (x : Station) : Bool := x.runRemaining.isSome

/-- A run counts one beat; at 0 it is complete and no longer in progress (R85). -/
def Station.countedDown (x : Station) : Station :=
  match x.runRemaining with
  | some (k + 2) => { x with runRemaining := some (k + 1) }
  | _ => { x with runRemaining := none }

/-- The run of a station is complete after this beat's count (R85). -/
def Station.completes (x : Station) : Bool := x.running && x.countedDown.runRemaining.isNone

end Sys2Proof.Machine
end

