-- ==== Sys2Proof/Machine/Legs.lean ====
section
/-! DEFINITION. The beginning of a leg (R51, R60, R123, R139), carriage faults (R125 to R127), and the outcomes of a recovery (R53,
R54). -/

namespace Sys2Proof.Machine

/-- A bay becomes OCCUPIED by a slot, keeping its deferred-disable flag; the station's phase origin becomes the current beat when no
bay of it was OCCUPIED (R10, R123, R139). -/
def State.occupyBay (slot : Slot) (d : BayRef) (s : State) : State :=
  let x := s.stations[d.station]
  let t := s.setBay d { s.bayAt d with state := .occupied slot }
  if x.anyOccupied then t
  else t.setStation d.station { t.stations[d.station] with phaseOrigin := s.beat }

/-- The record at the beginning of its next leg, in the bay `d` (R51, R60). -/
def State.nextLeg (h : Hanger) (d : BayRef) (s : State) : Hanger :=
  let base := { h with
    leg := h.leg + 1
    position := some d
    destination := none
    stepStart := s.beat
    overstayNoted := false
    faultReason := none }
  match (s.stepsOf h)[h.leg]? with
  | none => { base with state := .finished, target := none }
  | some k =>
    if k.kind = .exactDose then
      { base with state := .immersed, target := some (targetDose k.time h.push), dose := 0, fraction := 0,
                  overshoot := none, provisional := false }
    else { base with state := .immersed, target := none }

/-- A hanger is lowered into the bay reserved for it: the bay becomes OCCUPIED, the record begins its next leg, HANGER_DONE is set on
the unload leg, and a developer bath is charged (R51, R82, R123). -/
def State.beginLeg (slot : Slot) (s : State) : State :=
  match s.hangers[slot] with
  | none => s
  | some h => match h.destination with
    | none => s
    | some d =>
      let n := s.nextLeg h d
      let t := (s.occupyBay slot d).putHanger slot n
      (if n.state = .finished then t.mark .hangerDone slot.val else t).chargeBath d.station h.area

/-- A carriage is on its way: travelling, or halted in a travel (R125). -/
def Carriage.travelling (x : Carriage) : Bool :=
  match x.state with
  | .toSource | .toDest | .yielding => true
  | .halted => match x.halted with
    | some (.goto _) | some .park => true
    | _ => false
  | _ => false

/-- The job has not sent its LIFT order (R126). -/
def Job.beforeLift (j : Job) : Bool := j.phase == .toSource || j.phase == .awaitLift

/-- The carriage record at the entry into FAULT: no order is outstanding, the span is frozen, the position is unknown if the
carriage was travelling, and a job that has not sent LIFT is given up (R125 to R127). -/
def Carriage.faulted (x : Carriage) (code : Nat) : Carriage :=
  { x with
    state := .fault
    position := if x.travelling then none else x.position
    job := match x.job with
      | some j => if j.beforeLift then none else some j
      | none => none
    order := none
    halted := none
    faultCode := some code }

/-- A hanger is lost to a fault or halt after its LIFT order (R52). -/
def State.faultHanger (slot : Slot) (reason : FaultReason) (s : State) : State :=
  match s.hangers[slot] with
  | none => s
  | some h => (s.putHanger slot { h with state := .faulted, faultReason := some reason }).mark .hangerFault slot.val

/-- The valve of the station over which a job's hoist is in motion, if in AUTO, is staged off with its latch, at a halt or fault in
LIFTING or LOWERING (R140). -/
def State.silenceHoist (j : Job) (s : State) : State :=
  match j.phase with
  | .lifting => s.silenceAuto (valveOf j.source.station)
  | .lowering => s.silenceAuto (valveOf j.destination.station)
  | _ => s

/-- A carriage enters FAULT with a code; its job's request returns to the queue, or its hanger is FAULTED and the valve interlock
holds (R125 to R127, R140). -/
def State.faultCarriage (c : CarriageId) (code : Nat) (reason : FaultReason) (s : State) : State :=
  let x := s.carriage c
  let t := (s.setCarriage c (x.faulted code)).mark .carriageFault (carriageNumber c)
  match x.job with
  | none => t
  | some j => if j.beforeLift then t.returnRequest j else (t.silenceHoist j).faultHanger j.slot reason

/-- Fault codes of the part's own (R186). -/
def timeoutCode : Nat := 1
def protocolCode : Nat := 2
def stopDuringMoveCode : Nat := 3

/-- A carriage takes a position: PARKED at its park, IDLE elsewhere, with the span [p, p] and no job, order or fault code (R110,
R128, R130, R132). -/
def Carriage.placed (x : Carriage) (c : CarriageId) (p : Int) : Carriage :=
  { x with
    state := if p = parkOf c then .parked else .idle
    enabled := true
    position := some p
    span := some ⟨p, p⟩
    job := none
    order := none
    halted := none
    faultCode := none }

/-- RETURNED: the hanger is back in its source bay on the leg it was leaving; its reservation is released and offered, and a request
is lodged where its leg calls for one (R53, R104). -/
def State.returnHanger (slot : Slot) (source : BayRef) (s : State) : State :=
  match s.hangers[slot] with
  | none => s
  | some h =>
    let base := { h with position := some source, destination := none, faultReason := none }
    let back := match s.legKind h with
      | none => { base with state := .admitted }
      | some .exactDose => { base with state := .due, overshoot := none }
      | some _ => { base with state := .immersed }
    let t := ((s.occupyBay slot source).putHanger slot back).releaseBays h.destination.toList
    match s.legKind h with
    | none => t.lodge slot .launch s.beat
    | some .exactDose => t.lodge slot .exactDose s.beat
    | some _ => t

/-- The source bay of a job, where its hanger still occupies it: no LIFTED came for it (R121). -/
def State.sourceHeld (slot : Slot) (source : BayRef) (s : State) : List BayRef :=
  if (s.bayAt source).state = .occupied slot then [source] else []

/-- DELIVERED: the hanger begins its next leg in the bay reserved for it (R54). A source bay it still occupies then leaves use, since no
slot occupies more than one bay (R10, R11; log 30). -/
def State.deliverHanger (slot : Slot) (source : BayRef) (s : State) : State :=
  (s.beginLeg slot).releaseBays (s.sourceHeld slot source)

/-- REMOVED: the record stays FAULTED with reason REMOVED and gives up its reservation and a source bay it still occupies (R54). -/
def State.removeHanger (slot : Slot) (source : BayRef) (s : State) : State :=
  match s.hangers[slot] with
  | none => s
  | some h =>
    (s.putHanger slot { h with faultReason := some .removed, destination := none, target := none }).releaseBays
      (h.destination.toList ++ s.sourceHeld slot source)

end Sys2Proof.Machine
end

