-- ==== Sys2Proof/Machine/FollowUps.lean ====
section
/-! DEFINITION. The steps a beat leaves to be taken after it, and the settling of those not yet taken before any other event of the
line (R85, R117, R121; log 4). -/

namespace Sys2Proof.Machine

/-- An order expires: if still outstanding, the carriage enters FAULT with code TIMEOUT (R117). -/
def State.expire (c : CarriageId) (s : State) : State :=
  if (s.carriage c).order.isSome then s.faultCarriage c timeoutCode .carriageFault else s

/-- A drain ends: the carriage goes on, except while the line is STOPPED (R121). -/
def State.endDrain (c : CarriageId) (s : State) : State :=
  if (s.carriage c).state = .draining ∧ s.lineState ≠ .stopped then s.goOn c else s

/-- The effect of one step left by a beat. -/
def State.follow (s : State) (e : FollowUp) : State :=
  match e with
  | .expiry c => s.expire c
  | .drain c => s.endDrain c
  | .credit st => s.creditBath st

/-- Take one step left by the beat, if it is still left. -/
def State.takeFollowUp (e : FollowUp) (s : State) : State :=
  if s.due.contains e then State.follow { s with due := s.due.erase e } e else s

/-- Take every step the last beat left, in their order. -/
def State.settle (s : State) : State := s.due.foldl State.follow { s with due := [] }

/-- A step begins: the orders it sends are recorded afresh (log 8). -/
def State.begin (s : State) : State := { s with sent := [] }

end Sys2Proof.Machine
end

