-- ==== Sys2Proof/Machine/Link.lean ====
section
/-! DEFINITION. The Command Link Interface: taking a request frame (R161, R165), assembling its response (R162, R164), and the bytes
of a response (R184). -/

namespace Sys2Proof.Machine

/-- What a command's own rule makes of its request: accepted with a new state, a detail and data; NONE; or refused, which leaves the
state as it was (R165). -/
inductive Reply where
  | accepted (s : State) (detail : Nat) (data : List Byte)
  | nothing (s : State)
  | refused (reason : Reason) (detail : Nat)

/-- The buffer state byte that opens every frame (R184). -/
def Buffer.code : Buffer → Byte
  | .empty => 0x01
  | .working _ => 0x02
  | .ready _ => 0x03

/-- The buffer as it stood when the host asserted select on the frame in progress (R160). -/
def State.begunWith (s : State) : Buffer :=
  match s.openFrame with
  | some (.begunWorking r) => .working r
  | some (.abandoned begun _) => begun
  | none => s.buffer

/-- The buffer state as it stood when select was asserted, the first byte of a frame (R160). -/
def State.frameHead (s : State) : Byte := s.begunWith.code

/-- A reset has abandoned the frame in progress (R160, R174). -/
def State.frameAbandoned (s : State) : Bool :=
  match s.openFrame with
  | some (.abandoned _ _) => true
  | some (.begunWorking _) => false
  | none => false

/-- The bytes shifted out in a frame of `n` bytes that delivers nothing: the buffer state, then filler (R160, R163). -/
def State.frameOut (n : Nat) (s : State) : List Byte :=
  match n with
  | 0 => []
  | k + 1 => s.frameHead :: List.replicate k 0xFF

/-- The host releases select on a request frame of `n` bytes that a reset abandoned: it is ignored, and filler followed the buffer state
in it as in every request frame (R160). -/
def State.endAbandoned (n : Nat) (s : State) : State :=
  { s with sent := [], shifted := s.frameOut n, openFrame := none }

/-- A request frame is dropped while the buffer is WORKING: only the overrun flag of the response in assembly is set (R161, R164). -/
def State.dropFrame (n : Nat) (r : Response) (s : State) : State :=
  { s with sent := [], shifted := s.frameOut n, buffer := .working { r with overrun := true }, openFrame := none }

/-- A request frame of `n` bytes ends: ignored where a reset abandoned it (R160), dropped while the buffer is WORKING, and else taken,
with the state `taken` (R161). -/
def State.endFrame (n : Nat) (s taken : State) : State :=
  if s.frameAbandoned then s.endAbandoned n
  else match s.buffer with
    | .working r => s.dropFrame n r
    | _ => taken

/-- The held response is READY, so that a take discards it (R161). -/
def Buffer.isReady : Buffer → Bool
  | .ready _ => true
  | _ => false

/-- A request frame of `n` bytes is taken: what the last beat left is settled, and the sequence count is increased (R161). -/
def State.takeFrame (n : Nat) (s : State) : State :=
  let t := s.begin.settle
  { t with shifted := s.frameOut n, sequence := t.sequence + 1, draws := t.draws + 1, openFrame := none }

/-- Put a response into assembly: the buffer becomes WORKING (R161, R162). -/
def State.answer (code : Byte) (discard : Bool) (result : Result) (reason : Option Reason) (detail : Nat) (data : List Byte)
    (s : State) : State :=
  { s with buffer := .working { result := result, echo := code, reason := reason, detail := detail, data := data,
                                overrun := false, discard := discard, lineState := s.lineState, sequence := s.sequence } }

/-- Answer a taken request frame with what its rule made of it; a refusal leaves the state as the take left it (R165). -/
def State.reply (code : Byte) (discard : Bool) (s : State) (r : Reply) : State :=
  match r with
  | .accepted t detail data => t.answer code discard .accepted none detail data
  | .nothing t => t.answer code discard .nothing none 0 []
  | .refused reason detail => s.answer code discard .refused (some reason) detail []

/-- The detail of BAD_FRAME: the number of bytes clocked, 255 if more (R165). -/
def clockedDetail (n : Nat) : Nat := min n 255

/-- A malformed frame or one with an unknown command code, of `n` bytes (R165). -/
def State.refuseFrame (code : Byte) (n : Nat) (reason : Reason) (detail : Nat) (s : State) : State :=
  s.endFrame n ((s.takeFrame n).reply code s.buffer.isReady (.refused reason detail))

/-- A request frame of a known command with its payload: dropped while WORKING; refused as malformed when the payload is above 64
bytes; otherwise carried out by `body` on the state of the take (R161, R165). -/
def State.request (code : Byte) (p : List Byte) (body : State → Reply) (s : State) : State :=
  let n := 3 + p.length
  s.endFrame n ((s.takeFrame n).reply code s.buffer.isReady
    (if 64 < p.length then .refused .badFrame (clockedDetail n) else body (s.takeFrame n)))

/-- A command that carries no payload: any payload is refused with BAD_FORM, detail 0. -/
def noPayload (p : List Byte) (body : State → Reply) (s : State) : Reply :=
  if p = [] then body s else .refused .badForm 0

/-- A command that names a slot in its first payload byte, tested before its other fields (R38). -/
def withRecord (p : List Byte) (s : State) (body : Slot → Hanger → List Byte → Reply) : Reply :=
  match p with
  | [] => .refused .badForm 0
  | b :: rest => match slotOf b with
    | none => .refused .badForm 0
    | some slot => match s.hangers[slot] with
      | none => .refused .noRecord slot.val
      | some h => body slot h rest

/-- The eight header bytes of a response (R184). -/
def Response.header (r : Response) : List Byte :=
  [byte r.result.code, r.echo, byte ((r.reason.map Reason.code).getD 0), byte r.detail] ++ be16 r.data.length
    ++ [byte (bit r.overrun * 128 + bit r.discard * 64 + r.lineState.code), r.sequence]

/-- The bytes of a response: header and data (R162). -/
def Response.bytes (r : Response) : List Byte := r.header ++ r.data

end Sys2Proof.Machine
end

