-- ==== Sys2Proof/Machine/Images.lean ====
section
/-! DEFINITION. The byte layouts of the record images and of the data of responses (R185). -/

namespace Sys2Proof.Machine

/-- A set of subjects as a number, bit n for subject n (R185). -/
def setNumber (subjects : List Nat) : Nat := (subjects.map fun n => 2 ^ n).sum

/-- The marks byte of the hanger image: the slot kinds in the order of `hangerKinds` (R185). -/
def State.marksByte (slot : Slot) (s : State) : Byte :=
  byte (((List.range 7).map fun i => match hangerKinds[i]? with
    | some k => if s.hasMark k slot.val then 2 ^ i else 0
    | none => 0).sum)

/-- The image of a live record, 24 bytes (R185). -/
def State.recordImage (slot : Slot) (h : Hanger) (s : State) : List Byte :=
  be16 (h.state.code * 4096 + h.tag)
    ++ [byte (h.bank.val + bit h.held * 32 + bit h.overstayNoted * 64 + bit h.provisional * 128), byte (h.push + 50).toNat]
    ++ be16 (h.leg * 4096 + h.area)
    ++ [placeByte h.position, placeByte h.destination]
    ++ be32 h.stepStart.toNat
    ++ be24 h.dose
    ++ be40 (faultReasonCode h.faultReason * 2 ^ 38 + h.fraction * 2 ^ 20 + targetCode h.target)
    ++ be24 (overshootCode h.overshoot)
    ++ [s.marksByte slot]

/-- The image of a vacant slot (R185). -/
def vacantImage : List Byte :=
  [0, 0, 0, 0, 0, 0, 0xFF, 0xFF, 0, 0, 0, 0, 0, 0, 0, 0, 0, 0, 0, 0, 0xFF, 0xFF, 0xFF, 0]

/-- The image of a slot (R168, R185). -/
def State.hangerImage (s : State) (slot : Slot) : List Byte :=
  match s.hangers[slot] with
  | some h => s.recordImage slot h
  | none => vacantImage

/-- The image of a recipe step, 8 bytes (R185). -/
def Step.image (k : Step) : List Byte :=
  [byte k.cls.code, byte k.kind.code] ++ be16 k.time ++ be16 k.maxOverstay
    ++ [match k.pinned with | some st => byte st.val | none => 0xFF, byte k.drain]

/-- The slot a bay is reserved for or occupied by, or 0xFF (R183). -/
def BayState.slotByte : BayState → Byte
  | .reserved slot => byte slot.val
  | .occupied slot => byte slot.val
  | .empty => 0xFF
  | .disabled => 0xFF

/-- The two bytes of a bay; a bay beyond the count is sent as 0xFF, 0xFF (R185). -/
def Station.bayBytes (x : Station) (b : BayNo) : List Byte :=
  if b.val < x.bayCount then [byte (x.bays[b].state.code + bit x.bays[b].deferred * 128), x.bays[b].state.slotByte]
  else [0xFF, 0xFF]

/-- A reading as two bytes, 0xFFFF when absent (R185). -/
def readingBytes (r : Option Nat) : List Byte := be16 (r.getD 0xFFFF)

/-- The bath fields of a DEVELOP station (R185). -/
def Station.bathBytes (x : Station) : List Byte :=
  be16 x.activity ++ be16 x.deficit ++ be16 x.exhaust ++ be16 x.accumulator ++ be16 x.quantum
    ++ [pumpByte x.pump, byte x.runLength] ++ be16 x.restore ++ [byte x.pendingRuns, byte (x.runRemaining.getD 0)]

/-- The data of READ STATION (R9, R185). -/
def State.stationData (st : StationNo) (s : State) : List Byte :=
  let x := s.stations[st]
  [byte st.val, byte x.cls.code, byte x.bayCount, byte x.pattern.val]
    ++ x.bayBytes 0 ++ x.bayBytes 1 ++ x.bayBytes 2 ++ x.bayBytes 3
    ++ readingBytes x.latest ++ readingBytes x.heldValue
    ++ [byte x.age, byte (bit x.valid + bit (s.hasMark .sensorStale st.val) * 2 + bit (s.hasMark .exhausted st.val) * 4
          + bit (s.hasMark .replenishBacklog st.val) * 8)]
    ++ be32 x.phaseOrigin.toNat
    ++ (if x.cls = .develop then x.bathBytes else [])

/-- The span bytes, 0xFF, 0xFF for none (R183, R185). -/
def spanBytes (x : Option Span) : List Byte :=
  [positionByte (x.map Span.lo), positionByte (x.map Span.hi)]

/-- The job bytes; of an absent job the presence byte is 0 and the others 0xFF (R185; log 27). -/
def jobBytes : Option Job → List Byte
  | some j =>
    [1, byte j.slot.val, byte j.cls.code, placeByte (some j.source), placeByte (some j.destination), byte j.phase.code]
      ++ be32 (match j.drainEnd with | some b => b.toNat | none => 0)
  | none => [0, 0xFF, 0xFF, 0xFF, 0xFF, 0xFF, 0xFF, 0xFF, 0xFF, 0xFF]

/-- The order bytes; the code of an absent order is 0, its argument and timeout are not stated (R185; log 9). -/
def State.orderBytes (o : Option Outstanding) (s : State) : List Byte :=
  match o with
  | some x => [byte x.order.code, byte x.order.arg] ++ be32 x.timeout.toNat
  | none => 0 :: (List.range 5).map (Config.unstatedByte s.draws)

/-- The halted order bytes; the code of an absent order is 0, its argument is not stated (R185; log 9). -/
def State.haltedBytes (o : Option Order) (s : State) : List Byte :=
  match o with
  | some x => [byte x.code, byte x.arg]
  | none => [0, Config.unstatedByte s.draws 5]

/-- The data of READ CARRIAGE (R133, R185). DEDUCED (log 36), unsafe: R185 gives one byte of marks and no bit; the carriage's one mark,
CARRIAGE_FAULT, is sent in bit 0. -/
def State.carriageData (c : CarriageId) (s : State) : List Byte :=
  let x := s.carriage c
  [byte (carriageNumber c), byte x.state.code, byte (bit x.enabled), positionByte x.position] ++ spanBytes x.span
    ++ jobBytes x.job ++ s.orderBytes x.order ++ s.haltedBytes x.halted
    ++ [byte (x.faultCode.getD 0), byte (bit (s.hasMark .carriageFault (carriageNumber c)))]

/-- One entry of READ QUEUE; the code for pending is 0xFF (R107, R183, R185). -/
def Request.entry (r : Request) : List Byte :=
  [byte r.slot.val, byte r.cls.code] ++ be32 r.deadline.toNat ++ [placeByte (some r.source), placeByte r.destination]

/-- The data of READ QUEUE (R107, R185). -/
def State.queueData (s : State) : List Byte :=
  byte s.queue.length :: s.queueOrder.flatMap Request.entry

/-- The six line parameters in the order of SET LINE PARAMETERS (R171). -/
def LineParams.bytes (x : LineParams) : List Byte :=
  [byte x.callLead, byte x.tolerance, byte x.sensorTimeout, byte x.travelBase, byte x.perStation, byte x.liftTimeout]

/-- The line's marks: bit 0 LINE_STOPPED, bit 1 UNLOAD_FULL (R185). -/
def State.lineMarks (s : State) : Byte := byte (bit (s.hasMark .lineStopped 0) + bit (s.hasMark .unloadFull 0) * 2)

/-- The load area in READ LINE: open, bank, total, gathered; the bank and total of a closed one are not stated (R170; log 9). -/
def State.loadAreaBytes (s : State) : List Byte :=
  match s.loadArea with
  | some a => [1, byte a.bank.val, byte a.total, byte a.gathered.length]
  | none => [0, Config.unstatedByte s.draws 6, Config.unstatedByte s.draws 7, 0]

/-- The data of READ LINE (R170, R185). -/
def State.lineData (s : State) : List Byte :=
  byte s.lineState.code :: be32 s.beat.toNat ++ [byte (bit s.stopActive), byte s.bankPointer.val] ++ s.params.bytes
    ++ [byte s.liveCount, byte s.queue.length] ++ s.loadAreaBytes ++ [s.lineMarks]

/-- A channel byte of READ OUTPUTS (R185). -/
def Channel.image (x : Channel) : Byte :=
  byte (x.mode.code + bit x.enable * 16 + bit x.staged * 32 + bit x.latch * 64)

/-- The three bytes of a pattern entry (R185). -/
def Pattern.bytes (x : Pattern) : List Byte := [byte x.initial, byte x.burst, byte x.period]

/-- A station as a byte, 0xFF for none (R183). -/
def stationByte : Option StationNo → Byte
  | some st => byte st.val
  | none => 0xFF

/-- The data of READ OUTPUTS (R146, R185). -/
def State.outputsData (s : State) : List Byte :=
  byte (bit s.stopActive) :: s.channels.toList.map Channel.image
    ++ (List.finRange 4).map (fun p => stationByte (s.pumpOwner p)) ++ s.patterns.toList.flatMap Pattern.bytes

/-- The saved masks from bottom to top in seven bytes, unused entries 0xFF (R185). -/
def State.stackBytes (s : State) : List Byte :=
  s.maskStack.reverse.map byte ++ List.replicate (7 - s.maskStack.length) 0xFF

/-- A set of slots in six bytes, most significant first (R183, R185; log 28). -/
def slotSetBytes (subjects : List Nat) : List Byte :=
  let n := setNumber subjects
  [byte (n / 2 ^ 40), byte (n / 2 ^ 32)] ++ be32 n

/-- The levels of kinds 0 to 12 (R176, R185). -/
def State.levelBytes (s : State) : List Byte := s.levels.toList.map byte

/-- The data of READ MARKS (R181, R185). DEDUCED (log 28), unsafe: the sets of kinds 6, 9 and 10 are sent in two bytes with bit n for
station n; the manual gives the bits of the six-byte sets alone. -/
def State.marksData (s : State) : List Byte :=
  [byte s.mask, byte s.maskStack.length] ++ s.stackBytes ++ s.levelBytes
    ++ hangerKinds.flatMap (fun k => slotSetBytes (s.marked k))
    ++ [Kind.sensorStale, .exhausted, .replenishBacklog].flatMap (fun k => be16 (setNumber (s.marked k)))
    ++ [byte (bit (s.hasMark .carriageFault 1) + bit (s.hasMark .carriageFault 2) * 2), s.lineMarks, byte (bit s.attention)]

/-- The seventeen entries of the rate table (R65, R185). -/
def State.rateBytes (s : State) : List Byte := s.rates.toList.flatMap be16

end Sys2Proof.Machine
end

