-- ==== Sys2Proof/Machine/Attention.lean ====
section
/-! DEFINITION. The commands of the Attention Unit (R176 to R181). -/

namespace Sys2Proof.Machine

/-- The slot a subject of a kind is, if the kind stands on slots and the number is a slot's. -/
def subjectSlot (k : Kind) (n : Nat) : Option Slot :=
  if k.subject = .slot then (if h : n < 48 then some ⟨n, h⟩ else none) else none

/-- The saved-mask push of an ACK: M goes onto the stack and becomes the level of the kind taken (R177). -/
def State.enterService (k : Kind) (s : State) : State :=
  { s with maskStack := s.mask :: s.maskStack, mask := s.levelOf k }

/-- The read of the record an ACK delivers, which clears RECORD_CHANGED without QUIET (R177). -/
def State.ackRead (m : Byte) (k : Kind) (n : Nat) (s : State) : State :=
  match subjectSlot k n with
  | some slot => if isQuiet m ∨ (s.hangers[slot]).isNone then s else s.unmark .recordChanged slot.val
  | none => s

/-- The record's image in the data of an ACK, if its subject is a slot (R177). -/
def State.ackImage (k : Kind) (n : Nat) (s : State) : List Byte :=
  match subjectSlot k n with
  | some slot => s.hangerImage slot
  | none => []

/-- The rule of ACK (R177). -/
def ackBody (m : Byte) (s : State) : Reply :=
  match s.mostUrgent with
  | none => .nothing s
  | some k =>
    let n := (s.marked k).headD 0
    .accepted ((s.enterService k).ackRead m k n) k.number.val
      ([byte k.number.val, byte (s.levelOf k), byte n, byte (s.marked k).length, byte (s.levelOf k),
          byte (s.maskStack.length + 1)] ++ s.ackImage k n)

/-- ACK (R177). -/
def execAck (m : Byte) (p : List Byte) (s : State) : Host.Outcome State Fault Refusal :=
  .next (s.request 0x40 p (noPayload p (ackBody m)))

/-- The rule of DONE (R178). -/
def doneBody (s : State) : Reply :=
  match s.maskStack with
  | [] => .refused .notInService 0
  | top :: rest => .accepted { s with mask := top, maskStack := rest } top [byte rest.length]

/-- DONE (R178). -/
def execDoneService (_m : Byte) (p : List Byte) (s : State) : Host.Outcome State Fault Refusal :=
  .next (s.request 0x41 p (noPayload p doneBody))

/-- The rule of SET MASK (R179). -/
def setMaskBody (p : List Byte) (s : State) : Reply :=
  match p with
  | [a] =>
    if 7 < a.toNat then .refused .badForm 1
    else if s.maskStack ≠ [] then .refused .wrongState s.maskStack.length
    else .accepted { s with mask := a.toNat } a.toNat []
  | _ => .refused .badForm 0

/-- SET MASK (R179). -/
def execSetMask (_m : Byte) (p : List Byte) (s : State) : Host.Outcome State Fault Refusal :=
  .next (s.request 0x42 p (setMaskBody p))

/-- A kind given its level (R176). -/
def State.withLevel (k : Kind) (level : Nat) (s : State) : State := { s with levels := s.levels.set k.number.val level }

/-- The rule of SET LEVEL (R176). -/
def setLevelBody (p : List Byte) (s : State) : Reply :=
  match p with
  | [a, b] => match kindNumbered a.toNat with
    | none => .refused .badForm 1
    | some k =>
      let t := s.withLevel k (min 7 b.toNat)
      .accepted t (bit (7 < b.toNat)) t.levelBytes
  | _ => .refused .badForm 0

/-- SET LEVEL (R176). -/
def execSetLevel (_m : Byte) (p : List Byte) (s : State) : Host.Outcome State Fault Refusal :=
  .next (s.request 0x43 p (setLevelBody p))

/-- The subject a byte names for a kind; the byte of a line kind is not read (R180). -/
def subjectOf (k : Kind) (b : Byte) : Option Nat :=
  match k.subject with
  | .line => some 0
  | .slot => if b.toNat < 48 then some b.toNat else none
  | .station => if b.toNat < 16 then some b.toNat else none
  | .carriage => if b.toNat = 1 ∨ b.toNat = 2 then some b.toNat else none

/-- The rule of CLEAR MARK (R180). -/
def clearMarkBody (p : List Byte) (s : State) : Reply :=
  match p with
  | [a, b] => match kindNumbered a.toNat with
    | none => .refused .badForm 1
    | some k => match subjectOf k b with
      | none => .refused .badForm 2
      | some n => if s.hasMark k n then .accepted (s.unmark k n) 1 [] else .accepted s 0 []
  | _ => .refused .badForm 0

/-- CLEAR MARK (R180). -/
def execClearMark (_m : Byte) (p : List Byte) (s : State) : Host.Outcome State Fault Refusal :=
  .next (s.request 0x44 p (clearMarkBody p))

/-- READ MARKS (R181). -/
def execReadMarks (_m : Byte) (p : List Byte) (s : State) : Host.Outcome State Fault Refusal :=
  .next (s.request 0x45 p (noPayload p fun t => .accepted t t.calling.length t.marksData))

end Sys2Proof.Machine
end

