-- ==== Sys2Proof/Machine/Beat.lean ====
section
/-! DEFINITION. The beat (R1): the ageing of readings (R16), the per-hanger work in no stated order (R48, R49, R68 to R73), pump runs
(R84, R85), the transfer (R136), and the reference clock that ends beat periods. -/

namespace Sys2Proof.Machine

/-- The reading record after a beat's ageing (R16). -/
def Station.aged (timeout : Nat) (x : Station) : Station :=
  { x with age := min 255 (x.age + 1), valid := x.valid && min 255 (x.age + 1) ≤ timeout }

/-- The station's reading goes stale at this ageing (R16). -/
def Station.goesStale (timeout : Nat) (x : Station) : Bool := x.valid && timeout < min 255 (x.age + 1)

/-- One station's reading is aged; SENSOR_STALE is set when it goes stale, unless the class is UNUSED (R16). -/
def State.ageStation (s : State) (st : StationNo) : State :=
  let x := s.stations[st]
  let t := s.setStation st (x.aged s.params.sensorTimeout)
  if x.goesStale s.params.sensorTimeout ∧ x.cls ≠ .unused then t.mark .sensorStale st.val else t

/-- The readings of all stations are aged (R16). -/
def State.ageReadings (s : State) : State := allStations.foldl State.ageStation s

/-- Pump runs start where they may (R84). -/
def State.startRuns (s : State) : State :=
  allStations.foldl (fun s st => s.setStation st (s.startedStation st)) s

/-- The pumps of the runs in progress at this beat (R85, R141). -/
def State.runningPumps (s : State) : List PumpNo :=
  allStations.filterMap fun st => if s.stations[st].running then s.stations[st].pump else none

/-- The stations whose run is complete after this beat's count (R85). -/
def State.completing (s : State) : List StationNo := allStations.filter fun st => s.stations[st].completes

/-- Every run in progress counts one beat (R85). -/
def State.countRuns (s : State) : State :=
  allStations.foldl (fun s st => s.setStation st s.stations[st].countedDown) s

/-- A piece of a beat's work whose place among the others the manual does not state (R67, R68, R98; log 5, log 6). -/
inductive BeatTask where
  | develop (slot : Slot)
  | minimum (slot : Slot)
  | overstay (slot : Slot)
  | credit (st : StationNo)
deriving DecidableEq, Repr

/-- The number of a piece of work, by which `Config.beatKey` places it. -/
def BeatTask.number : BeatTask → Nat
  | .develop slot => slot.val
  | .minimum slot => 48 + slot.val
  | .overstay slot => 96 + slot.val
  | .credit st => 144 + st.val

/-- The call-point test of a record after its increment: within the margin it becomes DUE and lodges its EXACT request (R71,
R72). -/
def State.callPoint (slot : Slot) (h : Hanger) (n : Nat) (s : State) : State :=
  match h.target with
  | none => s
  | some target =>
    if h.state = .immersed ∧ atCallPoint target h.dose n s.params.callLead then
      (s.putHanger slot { h with state := .due }).lodge slot .exactDose (callDeadline s.beat target h.dose n)
    else s

/-- The record after its increment, with the provisional flag set by a provisional one (R69, R70). -/
def Hanger.developed (h : Hanger) (n : Nat) (provisional : Bool) : Hanger :=
  { h with
    dose := (incremented h.dose h.fraction n).1
    fraction := (incremented h.dose h.fraction n).2
    provisional := h.provisional || provisional }

/-- The beat's work on one developing record: increment, provisional test, call-point test, lift test (R68 to R73). -/
def State.developSlot (slot : Slot) (s : State) : State :=
  match s.hangers[slot] with
  | none => s
  | some h => match h.position with
    | none => s
    | some r =>
      if s.developing h then
        let x := s.stations[r.station]
        let n := beatYield s.rates x
        let g := h.developed n (incrementProvisional s.rates x)
        let t := s.putHanger slot g
        let u := if incrementProvisional s.rates x ∧ h.provisional = false then t.mark .provisional slot.val else t
        (u.callPoint slot g n).signal slot
      else s

/-- The deadline of the request of a TIMED or OPEN leg (R48). -/
def minimumDeadline (stepStart : Beat) (k : Step) : Beat :=
  beatPlus stepStart ((k.time + (if k.kind = .timed then k.maxOverstay else 0)) * 8)

/-- The minimum of a step is reached (R45, R48). -/
def minimumReached (now stepStart : Beat) (k : Step) : Bool := (k.time * 8 : Nat) ≤ beatDiff now stepStart

/-- The record of a TIMED or OPEN leg is tested for its minimum (R48). -/
def State.waitsMinimum (h : Hanger) (s : State) : Bool :=
  h.state == .immersed && !h.held && match s.legKind h with
    | some k => k != .exactDose
    | none => false

/-- The minimum-time test of one record (R48). -/
def State.minimumSlot (slot : Slot) (s : State) : State :=
  match s.hangers[slot] with
  | none => s
  | some h => match s.legStep h with
    | none => s
    | some k =>
      if s.waitsMinimum h ∧ minimumReached s.beat h.stepStart k then
        (s.putHanger slot { h with state := .due }).lodge slot k.kind.requestClass (minimumDeadline h.stepStart k)
      else s

/-- The record of a TIMED leg is tested for overstaying (R49). -/
def State.watchesOverstay (h : Hanger) (s : State) : Bool :=
  (h.state == .immersed || h.state == .due) && !h.overstayNoted && s.legKind h == some .timed

/-- The overstay test of one record (R49). -/
def State.overstaySlot (slot : Slot) (s : State) : State :=
  match s.hangers[slot] with
  | none => s
  | some h => match s.legStep h with
    | none => s
    | some k =>
      if s.watchesOverstay h ∧ ((k.time + k.maxOverstay) * 8 : Nat) < beatDiff s.beat h.stepStart then
        (s.putHanger slot { h with overstayNoted := true }).mark .overstay slot.val
      else s

/-- Take one piece of the beat's work. -/
def State.takeTask (s : State) (e : BeatTask) : State :=
  match e with
  | .develop slot => s.developSlot slot
  | .minimum slot => s.minimumSlot slot
  | .overstay slot => s.overstaySlot slot
  | .credit st => s.creditBath st

/-- The slots whose record passes a test. -/
def State.slotsWhere (f : Hanger → Bool) (s : State) : List Slot :=
  allSlots.filter fun slot => match s.hangers[slot] with
    | some h => f h
    | none => false

/-- The work of a beat, in order of numbers (R48, R49, R68, R86). -/
def State.beatTasks (credits : List StationNo) (s : State) : List BeatTask :=
  (s.slotsWhere fun h => s.developing h).map .develop ++ (s.slotsWhere fun h => s.waitsMinimum h).map .minimum
    ++ (s.slotsWhere fun h => s.watchesOverstay h).map .overstay ++ credits.map .credit

/-- A piece of work put into a list that stands in the order of the keys. -/
def placeTask (key : BeatTask → Nat) (e : BeatTask) : List BeatTask → List BeatTask
  | [] => [e]
  | x :: xs => if key e ≤ key x then e :: x :: xs else x :: placeTask key e xs

/-- The work of a beat in the order it is taken: the order of the keys, which is not stated (log 5). -/
def ordered (key : BeatTask → Nat) (tasks : List BeatTask) : List BeatTask := tasks.foldr (placeTask key) []

/-- The order of carriage `c` is outstanding at or past its timeout beat (R117). -/
def State.expires (c : CarriageId) (s : State) : Bool :=
  match (s.carriage c).order with
  | some o => 0 ≤ beatDiff s.beat o.timeout
  | none => false

/-- Carriage `c` is DRAINING at or past its drain end, and the line is not STOPPED (R121). -/
def State.drainEnds (c : CarriageId) (s : State) : Bool :=
  (s.carriage c).state == .draining && s.lineState != .stopped && match (s.carriage c).job with
    | some j => match j.drainEnd with
      | some b => 0 ≤ beatDiff s.beat b
      | none => false
    | none => false

/-- The orders that expire and the drains that end at this beat (R117, R121). -/
def State.carriageFollowUps (s : State) : List FollowUp :=
  (bothCarriages.filter fun c => s.expires c).map .expiry ++ (bothCarriages.filter fun c => s.drainEnds c).map .drain

/-- The beat counter after the beat (R1). -/
def State.counted (s : State) : State := { s with prescaler := 0, beat := s.beat + 1 }

/-- A beat (R1): what the last one left is settled, the counter counts, the readings age, pump runs start and count, the work on the
hangers is taken, the channels are transferred, and the steps that follow it are left to be taken (log 4). -/
def State.beatEffect (s : State) : State :=
  let a := s.begin.settle.counted
  let b := a.ageReadings.startRuns
  let inside := b.completing.filter fun st => Config.creditInside s.draws st.val
  let outside := b.completing.filter fun st => !Config.creditInside s.draws st.val
  let c := b.countRuns
  let d := (ordered (fun e => Config.beatKey s.draws e.number) (c.beatTasks inside)).foldl State.takeTask c
  { d.transfer b.runningPumps with
    draws := s.draws + 1
    due := a.carriageFollowUps ++ outside.map .credit }

/-- A cycle of the reference clock (R1; log 2): the cycle that would take the prescaler past 4095 ends the beat period. -/
def State.clockCycle (s : State) : State :=
  if s.prescaler < 4095 then { s.begin.settle with prescaler := s.prescaler + 1 } else s.beatEffect

/-- BEAT (R1; log 3). -/
def execBeat (s : State) : Host.Outcome State Fault Refusal := .next s.beatEffect

end Sys2Proof.Machine
end

