-- ==== Sys2Proof/Machine/CarriageCommands.lean ====
section
/-! DEFINITION. The commands on the carriages (R128 to R133). -/

namespace Sys2Proof.Machine

/-- A payload of a carriage and a position, form tests in order (7.7). -/
def placement (a b : Byte) (body : CarriageId → Int → Reply) : Reply :=
  match carriageOf a with
  | none => .refused .badForm 0
  | some c => match positionOf c b with
    | none => .refused .badForm 1
    | some q => body c q

/-- The span [q, q] keeps the order of R111 against the other carriage's span. -/
def State.placeClear (c : CarriageId) (q : Int) (s : State) : Bool := s.spanClear c ⟨q, q⟩

/-- The rule of PLACE CARRIAGE (R128; log 19). -/
def placeCarriageBody (p : List Byte) (s : State) : Reply :=
  match p with
  | [a, b] => placement a b fun c q =>
    if s.lineState ≠ .config then .refused .wrongLineState s.lineState.code
    else if (s.carriage c).state = .disabled then .refused .wrongState (s.carriage c).state.code
    else if s.placeClear c q = false then .refused .badPlacement (carriageNumber (otherCarriage c))
    else .accepted (s.setCarriage c ((s.carriage c).placed c q)) ((s.carriage c).placed c q).state.code []
  | _ => .refused .badForm 0

/-- PLACE CARRIAGE (R128). -/
def execPlaceCarriage (_m : Byte) (p : List Byte) (s : State) : Host.Outcome State Fault Refusal :=
  .next (s.request 0x30 p (placeCarriageBody p))

/-- The outcomes of RECOVER CARRIAGE for a hanger (R129). -/
inductive RecoveryOutcome where
  | returned
  | delivered
  | removed
deriving DecidableEq, Repr

/-- The outcome a code names; none for the code for none and for codes that name no outcome (R129, R184). -/
def outcomeOf (b : Byte) : Option RecoveryOutcome :=
  match b.toNat with
  | 1 => some .returned
  | 2 => some .delivered
  | 3 => some .removed
  | _ => none

/-- The source bay is OCCUPIED by the job's slot or EMPTY (R129). -/
def State.sourceOpen (j : Job) (s : State) : Bool :=
  (s.bayAt j.source).state == .occupied j.slot || (s.bayAt j.source).state == .empty

/-- The recovery acts on the hanger (R130). -/
def State.settleHanger (out : RecoveryOutcome) (j : Job) (s : State) : State :=
  match out with
  | .returned => s.returnHanger j.slot j.source
  | .delivered => s.deliverHanger j.slot j.source
  | .removed => s.removeHanger j.slot j.source

/-- The recovery then acts on the carriage, and arbitration runs (R130). -/
def State.recover (c : CarriageId) (q : Int) (s : State) : State :=
  (s.setCarriage c ((s.carriage c).placed c q)).arbitrate

/-- The rule of RECOVER CARRIAGE, its tests in order (R129, R130; log 24). -/
def recoverCarriageBody (p : List Byte) (s : State) : Reply :=
  match p with
  | [a, b, o] => placement a b fun c q =>
    if (s.carriage c).state ≠ .fault ∧ (s.carriage c).state ≠ .unplaced then .refused .wrongState (s.carriage c).state.code
    else match (s.carriage c).job with
    | none =>
      if s.placeClear c q = false then .refused .badPlacement (carriageNumber (otherCarriage c))
      else .accepted (s.recover c q) 255 []
    | some j => match outcomeOf o with
      | none => .refused .badForm 2
      | some out =>
        if s.placeClear c q = false then .refused .badPlacement (carriageNumber (otherCarriage c))
        else if out = .returned ∧ s.sourceOpen j = false then .refused .bayTaken (s.bayAt j.source).state.code
        else .accepted ((s.settleHanger out j).recover c q) j.slot.val []
  | _ => .refused .badForm 0

/-- RECOVER CARRIAGE (R129, R130). -/
def execRecoverCarriage (_m : Byte) (p : List Byte) (s : State) : Host.Outcome State Fault Refusal :=
  .next (s.request 0x31 p (recoverCarriageBody p))

/-- A carriage that DISABLE CARRIAGE takes out of use: UNPLACED, PARKED, IDLE, DISABLED, or in FAULT without a job (R131). -/
def Carriage.disablable (x : Carriage) : Bool :=
  x.state == .unplaced || x.state == .parked || x.state == .idle || x.state == .disabled ||
    (x.state == .fault && x.job.isNone)

/-- The carriage record out of use at a position (R131). -/
def Carriage.outOfUse (x : Carriage) (q : Int) : Carriage :=
  { x with
    state := .disabled
    enabled := false
    position := some q
    span := some ⟨q, q⟩
    job := none
    order := none
    halted := none
    faultCode := none }

/-- The rule of DISABLE CARRIAGE (R131). DEDUCED (log 19), unsafe: R131 states no order of its tests; they are taken as form, state,
placement. -/
def disableCarriageBody (p : List Byte) (s : State) : Reply :=
  match p with
  | [a, b] => placement a b fun c q =>
    if (s.carriage c).disablable = false then .refused .wrongState (s.carriage c).state.code
    else if s.placeClear c q = false then .refused .badPlacement (carriageNumber (otherCarriage c))
    else .accepted ((s.setCarriage c ((s.carriage c).outOfUse q)).arbitrate) 0 []
  | _ => .refused .badForm 0

/-- DISABLE CARRIAGE (R131). -/
def execDisableCarriage (_m : Byte) (p : List Byte) (s : State) : Host.Outcome State Fault Refusal :=
  .next (s.request 0x32 p (disableCarriageBody p))

/-- The rule of ENABLE CARRIAGE (R132). DEDUCED (log 19), unsafe: R132 states no order of its tests; they are taken as form, state,
placement. -/
def enableCarriageBody (p : List Byte) (s : State) : Reply :=
  match p with
  | [a, b] => placement a b fun c q =>
    if (s.carriage c).state ≠ .disabled then .refused .wrongState (s.carriage c).state.code
    else if s.placeClear c q = false then .refused .badPlacement (carriageNumber (otherCarriage c))
    else .accepted (s.recover c q) 0 []
  | _ => .refused .badForm 0

/-- ENABLE CARRIAGE (R132). -/
def execEnableCarriage (_m : Byte) (p : List Byte) (s : State) : Host.Outcome State Fault Refusal :=
  .next (s.request 0x33 p (enableCarriageBody p))

/-- The rule of READ CARRIAGE (R133). -/
def readCarriageBody (p : List Byte) (s : State) : Reply :=
  match p with
  | [a] => match carriageOf a with
    | some c => .accepted s 0 (s.carriageData c)
    | none => .refused .badForm 0
  | _ => .refused .badForm 0

/-- READ CARRIAGE (R133). -/
def execReadCarriage (_m : Byte) (p : List Byte) (s : State) : Host.Outcome State Fault Refusal :=
  .next (s.request 0x34 p (readCarriageBody p))

end Sys2Proof.Machine
end

