-- ==== Sys2Proof/Machine/Hangers.lean ====
section
/-! DEFINITION. The commands of the Hanger Table and the Dose Engine: ADMIT, RETIRE, HOLD, RELEASE, AMEND (R38 to R47), SET DOSE
(R77, R78), FIND, FIND MATCHING (R55, R56) and READ RECORDS (R168). -/

namespace Sys2Proof.Machine

/-- A push clamped to -50..+200 (R39). -/
def clampPush (p : Int) : Int := max (-50) (min 200 p)

/-- An area clamped to 0..4095 (R39). -/
def clampArea (a : Nat) : Nat := min 4095 a

/-- A tag and slot entered in the index, which is kept in rising order of tags (R35). -/
def enterTag (tag : Nat) (slot : Slot) : List (Nat × Slot) → List (Nat × Slot)
  | [] => [(tag, slot)]
  | x :: xs => if tag < x.1 then (tag, slot) :: x :: xs else x :: enterTag tag slot xs

/-- The slot the index holds for a tag (R35). -/
def State.slotOfTag (tag : Nat) (s : State) : Option Slot := (s.tagIndex.find? fun e => e.1 == tag).map Prod.snd

/-- The lowest-numbered vacant slot (R41). -/
def State.vacantSlot (s : State) : Option Slot := allSlots.find? fun slot => s.hangers[slot].isNone

/-- Step `k` has a station of its class: the pinned one, or some station (R40). -/
def State.stepServed (s : State) (k : Step) : Bool :=
  match k.pinned with
  | some st => s.stations[st].cls == k.cls
  | none => s.hasClass k.cls

/-- The number of the first leg of a recipe that has no station, the unload leg last (R40); `k` is the number of the first step
of the list. -/
def State.failedLeg (s : State) (k : Nat) : List Step → Option Nat
  | [] => if s.hasClass .unload then none else some k
  | x :: xs => if s.stepServed x then s.failedLeg (k + 1) xs else some k

/-- The load bay of an admission: the lowest EMPTY bay of the lowest LOAD station that has one (R41). -/
def State.loadBay (s : State) : Option BayRef :=
  allStations.findSome? fun st =>
    if s.stations[st].cls = .load then s.stations[st].firstFree.map fun b => ⟨st, b⟩ else none

/-- The record an admission writes (R41). -/
def admitted (tag : Nat) (bank : BankNo) (push : Int) (area : Nat) (d : BayRef) (now : Beat) : Hanger where
  tag := tag
  state := .admitted
  held := false
  bank := bank
  push := push
  area := area
  leg := 0
  position := some d
  destination := none
  stepStart := now
  overstayNoted := false
  dose := 0
  fraction := 0
  target := none
  overshoot := none
  provisional := false
  faultReason := none

/-- A bank with one more, or one fewer, live record (R25). -/
def Bank.used (b : Bank) : Bank := { b with useCount := b.useCount + 1 }
def Bank.released (b : Bank) : Bank := { b with useCount := b.useCount - 1 }

/-- The record is created in its load bay, the tag entered and the bank counted, and the LAUNCH request lodged (R41). -/
def State.enterHanger (slot : Slot) (h : Hanger) (d : BayRef) (s : State) : State :=
  let t := (s.occupyBay slot d).putHanger slot h
  State.lodge slot .launch s.beat
    { t.setBank h.bank t.banks[h.bank].used with tagIndex := enterTag h.tag slot t.tagIndex }

/-- The rule of ADMIT, its tests in order (R39 to R41). -/
def admitBody (m : Byte) (p : List Byte) (s : State) : Reply :=
  match p with
  | [t1, t0, p1, p0, a1, a0] =>
    let tag := num16 t1 t0
    let bank := addressedBank m s
    if tag = 0 ∨ 4095 < tag then .refused .badForm 1
    else if s.lineState = .config then .refused .wrongLineState s.lineState.code
    else if s.lineState = .stopped then .refused .lineStopped 0
    else match s.vacantSlot with
    | none => .refused .noSlot 0
    | some slot => match s.slotOfTag tag with
      | some other => .refused .duplicateTag other.val
      | none =>
        if s.banks[bank].steps = [] then .refused .emptyBank bank.val
        else match s.failedLeg 1 s.banks[bank].steps with
        | some leg => .refused .noStation leg
        | none => match s.loadBay with
          | none => .refused .noLoadBay 0
          | some d =>
            .accepted (s.enterHanger slot (admitted tag bank (clampPush (signed16 p1 p0)) (clampArea (num16 a1 a0)) d s.beat) d)
              slot.val ([byte slot.val, placeByte (some d)] ++ be32 s.beat.toNat)
  | _ => .refused .badForm 0

/-- ADMIT (R39 to R41). -/
def execAdmitHanger (m : Byte) (p : List Byte) (s : State) : Host.Outcome State Fault Refusal :=
  .next (s.request 0x20 p (admitBody m p))

/-- RETIRE is taken for this record: ADMITTED with its launch request no job, DONE, or FAULTED with reason REMOVED (R42). -/
def State.retirable (slot : Slot) (h : Hanger) (s : State) : Bool :=
  match h.state with
  | .admitted => !s.hasJob slot
  | .finished => true
  | .faulted => h.faultReason == some .removed
  | .immersed => false
  | .due => false
  | .inTransit => false

/-- A RETIRE that is taken empties the slot, in the order of R43. -/
def State.retire (slot : Slot) (h : Hanger) (s : State) : State :=
  let t := ((s.dropRequest slot).releaseBays (h.destination.toList ++ h.position.toList)).unmarkSlot slot
  { (t.setBank h.bank t.banks[h.bank].released).setHanger slot none with
    tagIndex := t.tagIndex.filter fun e => e.2 != slot }

/-- The rule of RETIRE (R38, R42, R43). -/
def retireBody (p : List Byte) (s : State) : Reply :=
  withRecord p s fun slot h rest =>
    if rest ≠ [] then .refused .badForm 1
    else if s.retirable slot h = false then .refused .wrongState h.state.code
    else .accepted (s.retire slot h) slot.val (be16 h.tag)

/-- RETIRE (R42, R43). -/
def execRetire (_m : Byte) (p : List Byte) (s : State) : Host.Outcome State Fault Refusal :=
  .next (s.request 0x21 p (retireBody p))

/-- What HOLD finds in a record (R44). -/
inductive HoldTest where
  | taken
  | wrongKind
  | wrongState
deriving DecidableEq, Repr

/-- The test of HOLD on the record (R44). -/
def State.holdTest (slot : Slot) (h : Hanger) (s : State) : HoldTest :=
  if s.hasJob slot then .wrongState
  else match h.state with
    | .admitted => .taken
    | .immersed => if s.legKind h = some .openEnded then .taken else .wrongKind
    | .due => if s.legKind h = some .openEnded then .taken else .wrongKind
    | .inTransit => .wrongState
    | .finished => .wrongState
    | .faulted => .wrongState

/-- The state of a record once it is held: a DUE record becomes IMMERSED (R44). -/
def HangerState.whenHeld : HangerState → HangerState
  | .due => .immersed
  | st => st

/-- A HOLD that is taken on a record not held: the request goes, the flag is set, and the reserved bay leaves use (R44, R102). -/
def State.hold (slot : Slot) (h : Hanger) (s : State) : State :=
  ((s.dropRequest slot).putHanger slot { h with held := true, state := h.state.whenHeld, destination := none }).releaseBays
    h.destination.toList

/-- The rule of HOLD (R38, R44). -/
def holdBody (p : List Byte) (s : State) : Reply :=
  withRecord p s fun slot h rest =>
    if rest ≠ [] then .refused .badForm 1
    else match s.holdTest slot h with
    | .wrongState => .refused .wrongState h.state.code
    | .wrongKind => .refused .wrongStepKind h.leg
    | .taken => if h.held then .accepted s 1 [] else .accepted (s.hold slot h) 0 []

/-- HOLD (R44). -/
def execHold (_m : Byte) (p : List Byte) (s : State) : Host.Outcome State Fault Refusal :=
  .next (s.request 0x22 p (holdBody p))

/-- The step of an OPEN leg whose minimum a held IMMERSED record has reached (R45). -/
def State.overdueStep (h : Hanger) (s : State) : Option Step :=
  match s.legStep h with
  | none => none
  | some k => if h.state = .immersed ∧ k.kind = .openEnded ∧ minimumReached s.beat h.stepStart k then some k else none

/-- RELEASE of a held record (R45). -/
def State.release (slot : Slot) (h : Hanger) (s : State) : State :=
  let g := { h with held := false }
  if h.state = .admitted then (s.putHanger slot g).lodge slot .launch s.beat
  else match s.overdueStep h with
    | some k => (s.putHanger slot { g with state := .due }).lodge slot .openEnded (minimumDeadline h.stepStart k)
    | none => s.putHanger slot g

/-- The detail of RELEASE of a held record (R45). -/
def State.releaseDetail (h : Hanger) (s : State) : Nat :=
  if h.state = .admitted then 0 else match s.overdueStep h with
    | some _ => 2
    | none => 0

/-- The rule of RELEASE (R38, R45). -/
def releaseBody (p : List Byte) (s : State) : Reply :=
  withRecord p s fun slot h rest =>
    if rest ≠ [] then .refused .badForm 1
    else if h.held then .accepted (s.release slot h) (s.releaseDetail h) []
    else .accepted s 1 []

/-- RELEASE (R45). -/
def execRelease (_m : Byte) (p : List Byte) (s : State) : Host.Outcome State Fault Refusal :=
  .next (s.request 0x23 p (releaseBody p))

/-- The record with the push and area AMEND selects, clamped; bit 0 of the change byte selects push, bit 1 area (R46, R184). -/
def Hanger.amended (h : Hanger) (change : Byte) (push : Int) (area : Nat) : Hanger :=
  { h with
    push := if change.toNat.testBit 0 then clampPush push else h.push
    area := if change.toNat.testBit 1 then clampArea area else h.area }

/-- A change of push on an EXACT leg recomputes the target; an IMMERSED record at or above it becomes DUE, and a carriage waiting
over a DUE one is given the signal (R47, R74). -/
def State.retarget (slot : Slot) (h : Hanger) (k : Step) (s : State) : State :=
  let target := targetDose k.time h.push
  let g := { h with target := some target }
  if h.state = .immersed ∧ target ≤ h.dose then
    (s.putHanger slot { g with state := .due }).lodge slot .exactDose s.beat
  else (s.putHanger slot g).signal slot

/-- The effects of AMEND on the record (R46, R47); `h` is the record as it was. -/
def State.amend (slot : Slot) (h : Hanger) (change : Byte) (push : Int) (area : Nat) (s : State) : State :=
  let g := h.amended change push area
  match s.legStep h with
  | some k =>
    if change.toNat.testBit 0 ∧ s.developing h then s.retarget slot g k else s.putHanger slot g
  | none => s.putHanger slot g

/-- The push, area and target a record holds, in the data of AMEND (R46, R185). -/
def State.amendData (slot : Slot) (s : State) : List Byte :=
  match s.hangers[slot] with
  | some h => beSigned16 h.push ++ be16 h.area ++ be24 (targetCode h.target)
  | none => []

/-- The rule of AMEND (R38, R46). DEDUCED (log 38), unsafe: R46 states no order of its tests; the form, length and then change byte, is
tested before the record's state. -/
def amendBody (p : List Byte) (s : State) : Reply :=
  withRecord p s fun slot h rest =>
    match rest with
    | [change, p1, p0, a1, a0] =>
      if change.toNat % 4 = 0 then .refused .badForm 2
      else if h.state = .finished ∨ h.state = .faulted then .refused .wrongState h.state.code
      else
        let t := s.amend slot h change (signed16 p1 p0) (num16 a1 a0)
        .accepted t 0 (t.amendData slot)
    | _ => .refused .badForm 1

/-- AMEND (R46, R47). -/
def execAmend (_m : Byte) (p : List Byte) (s : State) : Host.Outcome State Fault Refusal :=
  .next (s.request 0x24 p (amendBody p))

/-- The dose stands at or above the record's target. -/
def Hanger.atTarget (h : Hanger) : Bool :=
  match h.target with
  | some t => t ≤ h.dose
  | none => true

/-- The record with its dose set by hand (R78). -/
def Hanger.withDose (h : Hanger) (dose : Nat) : Hanger := { h with dose := dose, fraction := 0, provisional := false }

/-- The effects of SET DOSE (R78); `g` is the record with its new dose. -/
def State.setDose (slot : Slot) (g : Hanger) (s : State) : State :=
  if g.state = .immersed ∧ g.atTarget then (s.putHanger slot { g with state := .due }).lodge slot .exactDose s.beat
  else (s.putHanger slot g).signal slot

/-- A carriage waits over the slot in AWAIT_LIFT (R78). -/
def State.awaited (slot : Slot) (s : State) : Bool :=
  bothCarriages.any fun c => (s.carriage c).state == .awaitLift && match (s.carriage c).job with
    | some j => j.slot == slot
    | none => false

/-- The detail of SET DOSE (R78). -/
def State.doseDetail (slot : Slot) (g : Hanger) (s : State) : Nat :=
  if g.atTarget then (if g.state = .immersed then 1 else if s.awaited slot then 2 else 0) else 0

/-- The dose, target and state a record holds, in the data of SET DOSE (R78, R185). -/
def State.doseData (slot : Slot) (s : State) : List Byte :=
  match s.hangers[slot] with
  | some h => be24 h.dose ++ be24 (targetCode h.target) ++ [byte h.state.code]
  | none => []

/-- The rule of SET DOSE, its tests in order (R77, R78). -/
def setDoseBody (p : List Byte) (s : State) : Reply :=
  withRecord p s fun slot h rest =>
    match rest with
    | [a, b, c] =>
      if h.state ≠ .immersed ∧ h.state ≠ .due then .refused .wrongState h.state.code
      else if s.legKind h ≠ some .exactDose then .refused .wrongStepKind h.leg
      else
        let g := h.withDose (num24 a b c)
        let t := s.setDose slot g
        .accepted t (s.doseDetail slot g) (t.doseData slot)
    | _ => .refused .badForm 1

/-- SET DOSE (R77, R78). -/
def execSetDose (_m : Byte) (p : List Byte) (s : State) : Host.Outcome State Fault Refusal :=
  .next (s.request 0x25 p (setDoseBody p))

/-- The code of a slot's record state; VACANT is 0 (R186). -/
def State.stateCode (slot : Slot) (s : State) : Nat :=
  match s.hangers[slot] with
  | some h => h.state.code
  | none => 0

/-- The rule of FIND by tag (R55). -/
def findBody (p : List Byte) (s : State) : Reply :=
  match p with
  | [t1, t0] =>
    if num16 t1 t0 = 0 ∨ 4095 < num16 t1 t0 then .refused .badForm 0
    else match s.slotOfTag (num16 t1 t0) with
    | some slot => .accepted s slot.val [byte slot.val, byte (s.stateCode slot)]
    | none => .nothing s
  | _ => .refused .badForm 0

/-- FIND by tag (R55). -/
def execFind (_m : Byte) (p : List Byte) (s : State) : Host.Outcome State Fault Refusal :=
  .next (s.request 0x26 p (findBody p))

/-- The state set part of a filter: empty once VACANT and unassigned bits are passed over, or naming the state (R56; log 18). -/
def matchesStates (set : Nat) (h : Hanger) : Bool := set % 128 / 2 == 0 || set.testBit h.state.code

/-- The station part of a filter (R56). -/
def matchesStation (st : Byte) (h : Hanger) : Bool :=
  st == 0xFF || match h.position with
    | some r => r.station.val == st.toNat
    | none => false

/-- The mark set part of a filter: empty once kinds that are not hanger kinds are passed over, or naming a mark the record carries
(R56; log 18). -/
def State.matchesMarks (set : Nat) (slot : Slot) (s : State) : Bool :=
  hangerKinds.all (fun k => !set.testBit k.number.val) ||
    hangerKinds.any fun k => set.testBit k.number.val && s.hasMark k slot.val

/-- The slots whose live record matches a filter, in ascending order (R56). -/
def State.matching (states : Byte) (st bank : Byte) (marks : Nat) (s : State) : List Slot :=
  allSlots.filter fun slot => match s.hangers[slot] with
    | none => false
    | some h => matchesStates states.toNat h && matchesStation st h && (bank == 0xFF || h.bank.val == bank.toNat)
        && s.matchesMarks marks slot

/-- The rule of FIND MATCHING (R56). DESIGN CHOICE (log 34), unsafe: R56 states no order of its three form tests; a payload that fails
more than one is refused for its length, then its station, then its bank. -/
def findMatchingBody (p : List Byte) (s : State) : Reply :=
  match p with
  | [states, st, bank, m1, m0] =>
    if 15 < st.toNat ∧ st ≠ 0xFF then .refused .badForm 2
    else if 31 < bank.toNat ∧ bank ≠ 0xFF then .refused .badForm 3
    else
      let slots := s.matching states st bank (num16 m1 m0)
      .accepted s 0 (byte slots.length :: slots.map fun slot => byte slot.val)
  | _ => .refused .badForm 0

/-- FIND MATCHING (R56). -/
def execFindMatching (_m : Byte) (p : List Byte) (s : State) : Host.Outcome State Fault Refusal :=
  .next (s.request 0x27 p (findMatchingBody p))

/-- The slots a READ RECORDS delivers: from the first, as many as are wanted, up to slot 47 and to 42 (R168). -/
def deliveredSlots (first : Slot) (count : Nat) : List Slot :=
  (allSlots.drop first.val).take (min count (min (48 - first.val) 42))

/-- Without QUIET, a read of records clears RECORD_CHANGED of each live one (R168). -/
def State.readSlots (m : Byte) (slots : List Slot) (s : State) : State :=
  if isQuiet m then s
  else slots.foldl (fun t slot => if (s.hangers[slot]).isSome then t.unmark .recordChanged slot.val else t) s

/-- The rule of READ RECORDS (R168). -/
def readRecordsBody (m : Byte) (p : List Byte) (s : State) : Reply :=
  match p with
  | [a, n] => match slotOf a with
    | none => .refused .badForm 1
    | some first =>
      if n.toNat = 0 ∨ 48 < n.toNat then .refused .badForm 2
      else
        let slots := deliveredSlots first n.toNat
        .accepted (s.readSlots m slots) slots.length (slots.flatMap s.hangerImage)
  | _ => .refused .badForm 0

/-- READ RECORDS (R168). -/
def execReadRecords (m : Byte) (p : List Byte) (s : State) : Host.Outcome State Fault Refusal :=
  .next (s.request 0x28 p (readRecordsBody m p))

/-- The requests whose destination is pending (R107). -/
def State.pendingRequests (s : State) : Nat := s.queue.countP fun r => r.destination.isNone

/-- READ QUEUE (R107). -/
def execReadQueue (_m : Byte) (p : List Byte) (s : State) : Host.Outcome State Fault Refusal :=
  .next (s.request 0x29 p (noPayload p fun t => .accepted t t.pendingRequests t.queueData))

end Sys2Proof.Machine
end

