-- ==== Sys2Proof/Machine/Line.lean ====
section
/-! DEFINITION. The commands on the line state: START LINE, STOP LINE (R4, R5), PAUSE LINE and RESUME (R148, R150, R156 to R158). -/

namespace Sys2Proof.Machine

/-- The carriage passes START LINE's test: disabled, or IDLE or PARKED (R4). -/
def Carriage.standsReady (x : Carriage) : Bool := x.state == .disabled || x.isFree

/-- The rule of START LINE, its tests in order (R4). -/
def startLineBody (s : State) : Reply :=
  if s.lineState ≠ .config then .refused .wrongLineState s.lineState.code
  else if s.stopActive then .refused .stopInputActive 0
  else if s.hasClass .load = false then .refused .noLoadStation 0
  else if s.hasClass .unload = false then .refused .noUnloadStation 0
  else if s.carriage1.standsReady = false then .refused .carriageNotPlaced 1
  else if s.carriage2.standsReady = false then .refused .carriageNotPlaced 2
  else .accepted { s with lineState := .run } 0 []

/-- START LINE (R4). -/
def execStartLine (_m : Byte) (p : List Byte) (s : State) : Host.Outcome State Fault Refusal :=
  .next (s.request 0x06 p (noPayload p startLineBody))

/-- The rule of STOP LINE (R5). -/
def stopLineBody (s : State) : Reply :=
  match s.lineState with
  | .config => .refused .wrongLineState s.lineState.code
  | .stopped => .refused .lineStopped 0
  | _ =>
    if 0 < s.liveCount then .refused .tableNotEmpty s.liveCount
    else if s.carriage1.standsReady = false then .refused .carriageBusy 1
    else if s.carriage2.standsReady = false then .refused .carriageBusy 2
    else .accepted { s with lineState := .config } 0 []

/-- STOP LINE (R5). -/
def execStopLine (_m : Byte) (p : List Byte) (s : State) : Host.Outcome State Fault Refusal :=
  .next (s.request 0x07 p (noPayload p stopLineBody))

/-- The rule of PAUSE LINE (R148). -/
def pauseLineBody (s : State) : Reply :=
  match s.lineState with
  | .run => .accepted { s with lineState := .paused } 0 []
  | .stopped => .refused .lineStopped 0
  | _ => .refused .wrongLineState s.lineState.code

/-- PAUSE LINE (R148). -/
def execPauseLine (_m : Byte) (p : List Byte) (s : State) : Host.Outcome State Fault Refusal :=
  .next (s.request 0x08 p (noPayload p pauseLineBody))

/-- What RESUME does with a carriage (R156). -/
inductive ResumeAction where
  | untouched
  | reissued
  | faulted
  | lifted
  | drained
deriving DecidableEq, Repr

/-- The action codes of RESUME (R184). -/
def ResumeAction.code : ResumeAction → Nat
  | .untouched => 0
  | .reissued => 1
  | .faulted => 2
  | .lifted => 3
  | .drained => 4

/-- How RESUME treats a carriage, by the state it is found in (R156). DESIGN CHOICE (log 39), unsafe: that a drain ended while the line was
STOPPED (R121) is kept in no field of its own, but tested here again by the signed difference from the drain end. -/
def State.resumeAction (c : CarriageId) (s : State) : ResumeAction :=
  let x := s.carriage c
  match x.state, x.job with
  | .halted, _ => match x.halted with
    | some (.goto _) | some .park => .reissued
    | some (.lift _) | some (.lower _) => .faulted
    | _ => .untouched
  | .awaitLift, some j => if s.doseReached j.slot then .lifted else .untouched
  | .draining, some j => match j.drainEnd with
    | some b => if 0 ≤ beatDiff s.beat b then .drained else .untouched
    | none => .untouched
  | _, _ => .untouched

/-- A halted GOTO or PARK is sent again; the carriage re-enters the state it was halted in (R157). -/
def State.reissue (c : CarriageId) (s : State) : State :=
  let x := s.carriage c
  match x.halted with
  | none => s
  | some o =>
    let st := match x.job with
      | some j => j.phase
      | none => CarriageState.yielding
    (s.setCarriage c { x with state := st, halted := none }).sendOrder c o

/-- One carriage is settled at RESUME (R156 to R158). -/
def State.settleCarriage (s : State) (c : CarriageId) : State :=
  match s.resumeAction c with
  | .untouched => s
  | .reissued => s.reissue c
  | .faulted => s.faultCarriage c stopDuringMoveCode .stopDuringMove
  | .lifted => s.liftOrder c
  | .drained => s.goOn c

/-- The state of the carriages RESUME finds, with the line at RUN: carriage 1 is settled before carriage 2, and arbitration runs
(R156). -/
def State.resumed (s : State) : State := (bothCarriages.foldl State.settleCarriage { s with lineState := .run }).arbitrate

/-- The number of carriages that RESUME faults (R156). -/
def State.resumeFaults (s : State) : Nat := bothCarriages.countP fun c => s.resumeAction c == .faulted

/-- The action codes of both carriages (R156). -/
def State.resumeCodes (s : State) : List Byte := bothCarriages.map fun c => byte (s.resumeAction c).code

/-- The rule of RESUME (R150, R156). -/
def resumeBody (s : State) : Reply :=
  match s.lineState with
  | .paused => .accepted (State.arbitrate { s with lineState := .run }) 0 [0, 0]
  | .stopped =>
    if s.stopActive then .refused .stopInputActive 0 else .accepted s.resumed s.resumeFaults s.resumeCodes
  | _ => .refused .wrongLineState s.lineState.code

/-- RESUME (R150, R156). -/
def execResume (_m : Byte) (p : List Byte) (s : State) : Host.Outcome State Fault Refusal :=
  .next (s.request 0x09 p (noPayload p resumeBody))

end Sys2Proof.Machine
end

