-- ==== Sys2Proof/Machine/Inputs.lean ====
section
/-! DEFINITION. The inputs: RESET (R17, R159), LINE STOP (R151, R152, R155) and the sensor line (R13 to R15, R188). -/

namespace Sys2Proof.Machine

/-- A channel at the LINE STOP input becoming active: latch off, enable clear, mode and staged value kept (R136). -/
def Channel.cut (x : Channel) : Channel := { x with enable := false, latch := false }

/-- Every channel is cut (R136, R151). -/
def State.cutChannels (s : State) : State := { s with channels := s.channels.map Channel.cut }

/-- Every pump run in progress ends short (R87, R151). -/
def State.cutRuns (s : State) : State := allStations.foldl (fun s st => s.cutRunShort st) s

/-- A carriage with an outstanding order is sent HALT and keeps that order as its halted order; one halted in LIFTING or LOWERING
holds the valve interlock (R115, R140, R152). -/
def State.haltCarriage (s : State) (c : CarriageId) : State :=
  let x := s.carriage c
  match x.order with
  | none => s
  | some o =>
    let t := { s.setCarriage c { x with state := .halted, order := none, halted := some o.order } with
               sent := s.sent ++ [(c, .halt)] }
    match x.job with
    | some j => t.silenceHoist j
    | none => t

/-- The line state after LINE STOP becomes active (R151). -/
def LineState.halted : LineState → LineState
  | .run => .stopped
  | .paused => .stopped
  | .config => .config
  | .stopped => .stopped

/-- The effects of the LINE STOP input becoming active (R151). -/
def State.lineStop (s : State) : State :=
  let t := (bothCarriages.foldl State.haltCarriage s.cutChannels.cutRuns).mark .lineStopped 0
  { t with lineState := s.lineState.halted }

/-- The part after the RESET input or FULL RESET: every block at its reset value, HALT sent on both links, and then the LINE STOP
input read (R17, R134, R159, R173). The level of the input is not the part's to change (log 7); the free-value counter and the
queue of waiting commands are the model's own (log 8). DESIGN CHOICE (log 4), unsafe: what the last beat left in `due` is lost, untaken. -/
def State.resetPart (s : State) : State :=
  let r := { State.reset with stopActive := s.stopActive, draws := s.draws, pending := s.pending }
  if s.stopActive then r.mark .lineStopped 0 else r

/-- The RESET input abandons a frame in progress, which keeps the buffer it began with: one that a completion has overtaken, or one the
host has just begun; one that is abandoned already stays so (R160, R174; log 33). -/
def State.openAtReset (s : State) : Option OpenFrame :=
  match s.openFrame with
  | some (.abandoned begun clocked) => some (.abandoned begun clocked)
  | some (.begunWorking r) => some (.abandoned (.working r) (Config.bytesClocked s.draws))
  | none => if Config.selectAsserted s.draws then some (.abandoned s.buffer (Config.bytesClocked s.draws)) else none

/-- RESET (R17, R160). -/
def execReset (s : State) : Host.Outcome State Fault Refusal :=
  .next { s.resetPart with openFrame := s.openAtReset, draws := s.draws + 1 }

/-- LINE_STOP_ACTIVE (R151): the input becomes active; where it is active already, there is no event (log 23). -/
def execLineStopActive (s : State) : Host.Outcome State Fault Refusal :=
  .next (if s.stopActive then s.begin else { s.begin.settle with stopActive := true }.lineStop)

/-- LINE_STOP_INACTIVE (R155): the level alone changes. -/
def execLineStopInactive (s : State) : Host.Outcome State Fault Refusal :=
  .next { s.begin with stopActive := false }

/-- A good reading makes its value current and clears SENSOR_STALE (R13). -/
def State.takeReading (st : StationNo) (value : Nat) (s : State) : State :=
  (s.setStation st { s.stations[st] with latest := some value, heldValue := some value, age := 0, valid := true }).unmark
    .sensorStale st.val

/-- The fault code makes the reading invalid; SENSOR_STALE is set if it was valid and the class is not UNUSED (R14). -/
def State.takeSensorFault (st : StationNo) (s : State) : State :=
  let x := s.stations[st]
  let t := s.setStation st { x with latest := some 1023, valid := false }
  if x.valid ∧ x.cls ≠ .unused then t.mark .sensorStale st.val else t

/-- A reading frame that is taken (R13, R14). -/
def State.reading (st : StationNo) (value : Nat) (s : State) : State :=
  if value = 1023 then s.takeSensorFault st else s.takeReading st value

/-- The receiver of a line waits for idle line (R188). -/
def Receivers.await (line : SerialLine) (x : Receivers) : Receivers :=
  match line with
  | .link .one => { x with link1 := true }
  | .link .two => { x with link2 := true }
  | .sensor => { x with sensor := true }

/-- A frame on a line has ended, taken whole or discarded: its receiver waits for idle line before the next sync byte, after a discard as
R188 says, and after a whole frame since every frame begins after that time (R188). -/
def State.received (line : SerialLine) (s : State) : State :=
  { s with receivers := s.receivers.await line }

/-- READING_FRAME (R13, R14); a frame that is not well formed is discarded (R15, R188). -/
def execReadingFrame (frame : List Byte) (s : State) : Host.Outcome State Fault Refusal :=
  .next (match decodeReading frame with
    | some (st, value) => (s.begin.received .sensor).reading st value
    | none => s.begin.received .sensor)

/-- REPORT_FRAME_DISCARDED (R115, R188): nothing changes but the receiver, which waits for idle line. -/
def execReportFrameDiscarded (c : CarriageId) (s : State) : Host.Outcome State Fault Refusal :=
  .next (s.begin.received (.link c))

/-- FRAME_BROKEN_OFF (R15, R115, R188): nothing changes but the receiver, which waits for idle line. -/
def execFrameBrokenOff (line : SerialLine) (s : State) : Host.Outcome State Fault Refusal :=
  .next (s.begin.received line)

end Sys2Proof.Machine
end

