-- ==== Sys2Proof/Machine/LinkCommands.lean ====
section
/-! DEFINITION. The commands and events of the Command Link Interface: IDENTIFY, READ LINE, SET LINE PARAMETERS, LINK RESET, FULL
RESET (R169 to R174), the completion of a response (R162) and the fetch frame (R163). -/

namespace Sys2Proof.Machine

/-- The capability record (R169, R185). -/
def identity : List Byte := be16 0x0157 ++ be16 0x019C ++ [1, 16, 48, 32, 12, 2, 20, 8]

/-- IDENTIFY (R169). -/
def execIdentify (_m : Byte) (p : List Byte) (s : State) : Host.Outcome State Fault Refusal :=
  .next (s.request 0x01 p (noPayload p fun t => .accepted t 0 identity))

/-- READ LINE (R170). -/
def execReadLine (_m : Byte) (p : List Byte) (s : State) : Host.Outcome State Fault Refusal :=
  .next (s.request 0x02 p (noPayload p fun t => .accepted t t.lineState.code t.lineData))

/-- The six parameters a payload carries; a sensor timeout below 8 is stored as 8 (R171). -/
def paramsOf (a b c d e f : Byte) : LineParams :=
  { callLead := a.toNat, tolerance := b.toNat, sensorTimeout := max 8 c.toNat, travelBase := d.toNat,
    perStation := e.toNat, liftTimeout := f.toNat }

/-- The rule of SET LINE PARAMETERS (R171). -/
def setLineParametersBody (p : List Byte) (s : State) : Reply :=
  match p with
  | [a, b, c, d, e, f] =>
    if f = 0 then .refused .badForm 6
    else .accepted { s with params := paramsOf a b c d e f } (bit (c.toNat < 8)) (paramsOf a b c d e f).bytes
  | _ => .refused .badForm 0

/-- SET LINE PARAMETERS (R171). -/
def execSetLineParameters (_m : Byte) (p : List Byte) (s : State) : Host.Outcome State Fault Refusal :=
  .next (s.request 0x03 p (setLineParametersBody p))

/-- The Command Link Interface in its known state: pointer and sequence count 0 (R172). -/
def State.linkCleared (s : State) : State := { s with bankPointer := 0, sequence := 0 }

/-- The state of a LINK RESET that is taken. -/
def State.linkReset (s : State) : State := (s.takeFrame 3).linkCleared.answer 0x04 false .accepted none 0 []

/-- LINK RESET (R172): its response carries sequence 0 and no discard flag. -/
def execLinkReset (_m : Byte) (p : List Byte) (s : State) : Host.Outcome State Fault Refusal :=
  .next (if p = [] then s.endFrame 3 s.linkReset else s.request 0x04 p fun _ => .refused .badForm 0)

/-- FULL RESET (R173): the effect of the RESET input, without a response; its own frame has ended. DESIGN CHOICE (log 4), unsafe: what the
last beat left to follow it is not taken first, as at the take of other frames, but lost. -/
def execFullReset (_m : Byte) (p : List Byte) (s : State) : Host.Outcome State Fault Refusal :=
  .next (if p = [] then s.endFrame 3 { s.resetPart with shifted := s.frameOut 3 }
    else s.request 0x05 p fun _ => .refused .badForm 0)

/-- The frame in progress at a completion, if the host holds select asserted, began while the buffer was WORKING (R160; log 33). -/
def openAtCompletion (draw : Nat) (r : Response) : Option OpenFrame :=
  if Config.selectAsserted draw then some (.begunWorking r) else none

/-- COMPLETION (R162): a response in assembly stands whole in the buffer; otherwise there is no event (log 23). -/
def execCompletion (s : State) : Host.Outcome State Fault Refusal :=
  .next (match s.buffer with
    | .working r => { s.begin with buffer := .ready r, openFrame := openAtCompletion s.draws r, draws := s.draws + 1 }
    | _ => s.begin)

/-- The bytes shifted out after the buffer state in a fetch frame: the response, then filler (R163). -/
def Buffer.fetched (n : Nat) (b : Buffer) : List Byte :=
  match b with
  | .ready r => (r.bytes ++ List.replicate n 0xFF).take n
  | _ => List.replicate n 0xFF

/-- The buffer after a fetch frame that shifted out `n` bytes after the buffer state: EMPTY if that was all of the response (R163). -/
def Buffer.afterFetch (n : Nat) (b : Buffer) : Buffer :=
  match b with
  | .ready r => if r.bytes.length ≤ n then .empty else b
  | _ => b

/-- The `n` bytes shifted out after the buffer state in a fetch frame that began with this buffer and that a reset abandoned after
`clocked` of them: the response, where it was READY, up to the reset, and filler as in every fetch (R163). What stands from then on in
the place of the response, which the reset discards (R174), is not stated (log 9, log 33). -/
def Buffer.fetchedUntil (clocked draw n : Nat) (b : Buffer) : List Byte :=
  match b with
  | .ready r => (List.range n).map fun i =>
      if clocked ≤ i ∧ i < r.bytes.length then Config.unstatedByte draw i else r.bytes.getD i 0xFF
  | _ => List.replicate n 0xFF

/-- A fetch frame that shifts out `n` bytes after the buffer state: one begun while the buffer was WORKING delivers filler and changes
nothing, even where the response has become READY since (R163); one that a reset abandoned is no fetch (R160). -/
def State.fetch (n : Nat) (s : State) : State :=
  match s.openFrame with
  | some (.abandoned begun clocked) => { s.begin with
      shifted := begun.code :: begun.fetchedUntil clocked s.draws n, openFrame := none, draws := s.draws + 1 }
  | some (.begunWorking _) => { s.begin with shifted := s.frameOut (n + 1), openFrame := none }
  | none => { s.begin with shifted := s.buffer.code :: s.buffer.fetched n, buffer := s.buffer.afterFetch n }

/-- A frame with no whole byte is ignored (R160); it has ended. -/
def State.emptyFrame (s : State) : State := { s.begin with openFrame := none }

/-- FETCH_FRAME of `count` bytes clocked (R160, R163). -/
def execFetchFrame (count : Nat) (s : State) : Host.Outcome State Fault Refusal :=
  .next (match count with
    | 0 => s.emptyFrame
    | n + 1 => s.fetch n)

end Sys2Proof.Machine
end

