-- ==== Sys2Proof/Machine/Outputs.lean ====
section
/-! DEFINITION. The commands of the Output Stage (R142 to R146). -/

namespace Sys2Proof.Machine

/-- A replenishment run in progress on a pump channel ends short (R87). -/
def State.cutRunOn (ch : ChannelNo) (s : State) : State :=
  if h : ch.val < 16 then s
  else match s.pumpOwner ⟨ch.val - 16, by omega⟩ with
    | some st => s.cutRunShort st
    | none => s

/-- A change of mode: the run on a channel that leaves AUTO ends short, staged value and latch go off, the enable is kept (R142). -/
def State.changeMode (ch : ChannelNo) (mode : ChannelMode) (s : State) : State :=
  let t := if s.channels[ch].mode = .auto then s.cutRunOn ch else s
  t.setChannel ch { t.channels[ch] with mode := mode, staged := false, latch := false }

/-- The rule of SET CHANNEL MODE (R142). -/
def setChannelModeBody (p : List Byte) (s : State) : Reply :=
  match p with
  | [a, b] => match finOf 20 a with
    | none => .refused .badForm 1
    | some ch => match modeOf b with
      | none => .refused .badForm 2
      | some mode =>
        if s.channels[ch].mode = mode then .accepted s 1 [] else .accepted (s.changeMode ch mode) 0 []
  | _ => .refused .badForm 0

/-- SET CHANNEL MODE (R142). -/
def execSetChannelMode (_m : Byte) (p : List Byte) (s : State) : Host.Outcome State Fault Refusal :=
  .next (s.request 0x38 p (setChannelModeBody p))

/-- One channel is enabled, or disabled with its latch off and a run on it cut short if it is in AUTO (R143). -/
def State.enableChannel (value : Bool) (s : State) (ch : ChannelNo) : State :=
  if value then s.setChannel ch { s.channels[ch] with enable := true }
  else
    let t := if s.channels[ch].mode = .auto ∧ s.channels[ch].enable then s.cutRunOn ch else s
    t.setChannel ch { t.channels[ch] with enable := false, latch := false }

/-- The channels named in a set. -/
def namedChannels (b0 b1 b2 : Byte) : List ChannelNo := allChannels.filter (inChannelSet b0 b1 b2)

/-- The rule of ENABLE OUTPUTS (R143). -/
def enableOutputsBody (p : List Byte) (s : State) : Reply :=
  match p with
  | [n0, n1, n2, v0, v1, v2] =>
    if s.stopActive then .refused .stopInputActive 0
    else
      let t := (namedChannels n0 n1 n2).foldl (fun s ch => s.enableChannel (inChannelSet v0 v1 v2 ch) ch) s
      .accepted t 0 (channelSetBytes fun ch => t.channels[ch].enable)
  | _ => .refused .badForm 0

/-- ENABLE OUTPUTS (R143). -/
def execEnableOutputs (_m : Byte) (p : List Byte) (s : State) : Host.Outcome State Fault Refusal :=
  .next (s.request 0x39 p (enableOutputsBody p))

/-- A channel in MANUAL is staged; staged off, its latch goes off (R144). -/
def Channel.stagedByHand (value : Bool) (x : Channel) : Channel := { x with staged := value, latch := x.latch && value }

/-- The rule of SET MANUAL OUTPUTS (R144). -/
def setManualOutputsBody (p : List Byte) (s : State) : Reply :=
  match p with
  | [n0, n1, n2, v0, v1, v2] =>
    match (namedChannels n0 n1 n2).find? fun ch => s.channels[ch].mode ≠ .manual with
    | some ch => .refused .wrongState ch.val
    | none =>
      let t := (namedChannels n0 n1 n2).foldl
        (fun s ch => s.setChannel ch (s.channels[ch].stagedByHand (inChannelSet v0 v1 v2 ch))) s
      .accepted t 0 (channelSetBytes fun ch => t.channels[ch].staged)
  | _ => .refused .badForm 0

/-- SET MANUAL OUTPUTS (R144). -/
def execSetManualOutputs (_m : Byte) (p : List Byte) (s : State) : Host.Outcome State Fault Refusal :=
  .next (s.request 0x3A p (setManualOutputsBody p))

/-- The pattern entry stored: a burst at or above the period becomes period - 1 (R145). -/
def patternOf (initial burst period : Byte) : Pattern :=
  ⟨initial.toNat, min burst.toNat (period.toNat - 1), period.toNat⟩

/-- An entry of the pattern table that can be written, 1 to 7 (R145). -/
def entryOf (b : Byte) : Option (Fin 7) := if b = 0 then none else finOf 7 (b - 1)

/-- The rule of SET PATTERN (R145). -/
def setPatternBody (p : List Byte) (s : State) : Reply :=
  match p with
  | [e, i, b, q] => match entryOf e with
    | none => .refused .badForm 1
    | some entry =>
      if b = 0 then .refused .badForm 3
      else if q.toNat < 2 then .refused .badForm 4
      else .accepted { s with patterns := s.patterns.set entry.val (patternOf i b q) } (bit (q.toNat ≤ b.toNat))
        (e :: (patternOf i b q).bytes)
  | _ => .refused .badForm 0

/-- SET PATTERN (R145). -/
def execSetPattern (_m : Byte) (p : List Byte) (s : State) : Host.Outcome State Fault Refusal :=
  .next (s.request 0x3B p (setPatternBody p))

/-- READ OUTPUTS (R146). -/
def execReadOutputs (_m : Byte) (p : List Byte) (s : State) : Host.Outcome State Fault Refusal :=
  .next (s.request 0x3C p (noPayload p fun t => .accepted t 0 t.outputsData))

end Sys2Proof.Machine
end

