-- ==== Sys2Proof/Machine/Recipes.lean ====
section
/-! DEFINITION. The commands of the Recipe Store: SELECT BANK, LOAD STEPS, READ STEPS, CLEAR BANK (R23 to R32), and the rate table
(R65, R66). -/

namespace Sys2Proof.Machine

/-- The rule of SELECT BANK (R24). -/
def selectBankBody (p : List Byte) (s : State) : Reply :=
  match p with
  | [a] => match finOf 32 a with
    | some b => .accepted { s with bankPointer := b } b.val []
    | none => .refused .badForm 0
  | _ => .refused .badForm 0

/-- SELECT BANK (R24). -/
def execSelectBank (_m : Byte) (p : List Byte) (s : State) : Host.Outcome State Fault Refusal :=
  .next (s.request 0x18 p (selectBankBody p))

/-- The steps the open load area has gathered; 0 when it is closed (R27). -/
def State.gatheredCount (s : State) : Nat :=
  match s.loadArea with
  | some a => a.gathered.length
  | none => 0

/-- A LOAD STEPS frame continues the open load area (R27). -/
def State.continuesLoad (bank : BankNo) (n f : Nat) (s : State) : Bool :=
  match s.loadArea with
  | some a => a.bank == bank && a.total == n && a.gathered.length == f
  | none => false

/-- The number of the first malformed step of a frame whose steps begin at number `k` (R27, R28). -/
def firstBadStep (k : Nat) : List (List Byte) → Option Nat
  | [] => none
  | image :: rest => match stepOf image with
    | none => some k
    | some _ => firstBadStep (k + 1) rest

/-- The steps gathered before a frame with first index `f`: none for a frame that begins a load (R29). -/
def State.gatheredBefore (f : Nat) (s : State) : List Step :=
  if f = 0 then [] else match s.loadArea with
    | some a => a.gathered
    | none => []

/-- A frame is taken into the load area: the bank is written when the gathered list is whole, and the area is then closed (R29). -/
def State.takeSteps (bank : BankNo) (n : Nat) (gathered : List Step) (s : State) : State :=
  if gathered.length = n then
    { s.setBank bank { s.banks[bank] with steps := gathered } with loadArea := none }
  else { s with loadArea := some ⟨bank, n, gathered⟩ }

/-- The rule of LOAD STEPS, its tests in order (R26 to R29). -/
def loadStepsBody (m : Byte) (p : List Byte) (s : State) : Reply :=
  match p with
  | n :: f :: images =>
    let k := images.length / 8
    let bank := addressedBank m s
    if images.length < 8 ∨ images.length % 8 ≠ 0 then .refused .badForm 0
    else if n.toNat = 0 ∨ 12 < n.toNat then .refused .badForm 1
    else if 11 < f.toNat then .refused .badForm 2
    else if n.toNat < f.toNat + k then .refused .badForm 3
    else if 0 < s.banks[bank].useCount then .refused .bankInUse s.banks[bank].useCount
    else if f ≠ 0 ∧ s.continuesLoad bank n.toNat f.toNat = false then .refused .loadSequence s.gatheredCount
    else match firstBadStep (f.toNat + 1) (stepImages images) with
    | some bad => .refused .badStep bad
    | none =>
      let gathered := s.gatheredBefore f.toNat ++ (stepImages images).filterMap stepOf
      .accepted (s.takeSteps bank n.toNat gathered) 0
        [byte bank.val, n, byte gathered.length, byte (bit (gathered.length = n.toNat))]
  | _ => .refused .badForm 0

/-- LOAD STEPS (R26 to R29). -/
def execLoadSteps (m : Byte) (p : List Byte) (s : State) : Host.Outcome State Fault Refusal :=
  .next (s.request 0x19 p (loadStepsBody m p))

/-- The data of READ STEPS (R31, R185). -/
def State.stepsData (bank : BankNo) (s : State) : List Byte :=
  [byte bank.val, byte s.banks[bank].steps.length, byte s.banks[bank].useCount] ++ s.banks[bank].steps.flatMap Step.image

/-- READ STEPS (R31). -/
def execReadSteps (m : Byte) (p : List Byte) (s : State) : Host.Outcome State Fault Refusal :=
  .next (s.request 0x1A p (noPayload p fun t => .accepted t 0 (t.stepsData (addressedBank m t))))

/-- The rule of CLEAR BANK (R32). -/
def clearBankBody (m : Byte) (s : State) : Reply :=
  let bank := addressedBank m s
  if 0 < s.banks[bank].useCount then .refused .bankInUse s.banks[bank].useCount
  else .accepted (s.setBank bank { s.banks[bank] with steps := [] }) bank.val []

/-- CLEAR BANK (R32). -/
def execClearBank (m : Byte) (p : List Byte) (s : State) : Host.Outcome State Fault Refusal :=
  .next (s.request 0x1B p (noPayload p (clearBankBody m)))

/-- The numbers two-byte fields carry. -/
def numbers16 : List Byte → List Nat
  | a :: b :: rest => num16 a b :: numbers16 rest
  | _ => []

/-- A rate clamped to 64..1023 (R65). -/
def clampRate (r : Nat) : Nat := max 64 (min 1023 r)

/-- The rate table a list of entries gives, each clamped (R65). -/
def ratesOf (entries : List Nat) : Vector Nat 17 := Vector.ofFn fun i => clampRate (entries[i.val]?.getD 0)

/-- The rule of SET RATE TABLE (R65). -/
def setRateTableBody (p : List Byte) (s : State) : Reply :=
  if p.length = 34 then
    let t := { s with rates := ratesOf (numbers16 p) }
    .accepted t ((numbers16 p).countP fun r => clampRate r ≠ r) t.rateBytes
  else .refused .badForm 0

/-- SET RATE TABLE (R65). -/
def execSetRateTable (_m : Byte) (p : List Byte) (s : State) : Host.Outcome State Fault Refusal :=
  .next (s.request 0x1C p (setRateTableBody p))

/-- READ RATE TABLE (R66). -/
def execReadRateTable (_m : Byte) (p : List Byte) (s : State) : Host.Outcome State Fault Refusal :=
  .next (s.request 0x1D p (noPayload p fun t => .accepted t 0 t.rateBytes))

end Sys2Proof.Machine
end

