-- ==== Sys2Proof/Machine/Reports.lean ====
section
/-! DEFINITION. The reports of the carriage drivers (R115, R116, R119 to R124) and the steps a beat leaves (R85, R117, R121). -/

namespace Sys2Proof.Machine

/-- The outstanding order is answered: it and its timeout are cleared (R115). -/
def State.clearOrder (c : CarriageId) (s : State) : State := s.setCarriage c { s.carriage c with order := none }

/-- Reports find the carriage deaf: they are discarded, whatever they say (R116). -/
def CarriageState.deaf (st : CarriageState) : Bool := st == .unplaced || st == .disabled || st == .fault

/-- A report that answers no outstanding order (R116). DEDUCED (log 35), unsafe: at a HALTED carriage a LOWERED report is discarded like
any other, by R116 and R153, although R106 says of the time after LINE STOP that LOWERED reports in flight go on freeing bays. -/
def State.strayReport (c : CarriageId) (s : State) : State :=
  if (s.carriage c).state.deaf || (s.carriage c).state == .halted then s
  else s.faultCarriage c protocolCode .carriageFault

/-- A report on the link of carriage `c`: where it answers the outstanding order, that is cleared and `advance` carries on (R115,
R116). -/
def State.report (c : CarriageId) (answers : Order → Bool) (advance : State → State) (s : State) : State :=
  let t := (s.received (.link c)).begin.settle
  match (t.carriage c).order with
  | some o => if answers o.order then advance (t.clearOrder c) else t.strayReport c
  | none => t.strayReport c

/-- ARRIVED at the source: position and span are the arrival's, arbitration runs for the other carriage, and the carriage lifts or
awaits the dose (R119). -/
def State.arriveSource (c : CarriageId) (j : Job) (s : State) : State :=
  let x := s.carriage c
  ((s.setCarriage c { x with
      position := some (j.source.station.val : Int)
      span := some (hull2 j.source.station.val j.destination.station.val) }).arbitrate).liftOrAwait c

/-- ARRIVED at the destination: LOWER is sent (R122). -/
def State.arriveDestination (c : CarriageId) (j : Job) (s : State) : State :=
  (s.setCarriage c { s.carriage c with position := some (j.destination.station.val : Int) }).lowerOrder c

/-- ARRIVED answers GOTO (R119, R122). -/
def State.arrive (c : CarriageId) (s : State) : State :=
  match (s.carriage c).job with
  | none => s
  | some j => if (s.carriage c).state = .toSource then s.arriveSource c j else s.arriveDestination c j

/-- GOTO is answered by ARRIVED with that station (7.4). -/
def answersArrived (arg : Byte) (o : Order) : Bool :=
  match o with
  | .goto st => arg.toNat == st.val
  | _ => false

/-- ARRIVED (R119, R122). -/
def execArrived (c : CarriageId) (arg : Byte) (s : State) : Host.Outcome State Fault Refusal :=
  .next (s.report c (answersArrived arg) (State.arrive c))

/-- The carriage reaches its park: PARKED with the park as position and span, and arbitration runs (R124). -/
def State.park (c : CarriageId) (s : State) : State :=
  (s.setCarriage c { s.carriage c with
    state := .parked
    position := some (parkOf c)
    span := some ⟨parkOf c, parkOf c⟩ }).arbitrate

/-- PARK is answered by PARKED, whatever its argument byte (7.4; log 20). -/
def answersParked (o : Order) : Bool := o == .park

/-- PARKED (R124; log 20). -/
def execParked (c : CarriageId) (_arg : Byte) (s : State) : Host.Outcome State Fault Refusal :=
  .next (s.report c answersParked (State.park c))

/-- The drain of the leg a job leaves: that of the step, 0 for a launch (R22, R121). -/
def State.drainOf (slot : Slot) (s : State) : Nat :=
  match s.hangers[slot] with
  | none => 0
  | some h => match s.legStep h with
    | none => 0
    | some k => k.drain

/-- After the lift: draining until the drain end, or straight on to travel with drain 0 (R121). -/
def State.drain (c : CarriageId) (j : Job) (s : State) : State :=
  if s.drainOf j.slot = 0 then s.goOn c
  else s.setCarriage c { s.carriage c with
    state := .draining
    job := some { j with phase := .draining, drainEnd := some (beatPlus s.beat (s.drainOf j.slot)) } }

/-- LIFTED answers LIFT: the source bay leaves use and is offered, and the carriage drains or goes on (R121). -/
def State.lifted (c : CarriageId) (s : State) : State :=
  match (s.carriage c).job with
  | none => s
  | some j => (s.releaseBays [j.source]).drain c j

/-- LIFT is answered by LIFTED with that bay (7.4). -/
def answersLifted (arg : Byte) (o : Order) : Bool :=
  match o with
  | .lift b => arg.toNat == b.val
  | _ => false

/-- LIFTED (R121). -/
def execLifted (c : CarriageId) (arg : Byte) (s : State) : Host.Outcome State Fault Refusal :=
  .next (s.report c (answersLifted arg) (State.lifted c))

/-- The job ends: the carriage is IDLE at the destination station with that span (R123). -/
def Carriage.jobEnded (x : Carriage) (d : StationNo) : Carriage :=
  { x with state := .idle, position := some (d.val : Int), span := some ⟨d.val, d.val⟩, job := none }

/-- LOWERED answers LOWER: the record begins its next leg, the job ends, and arbitration runs (R123). -/
def State.lowered (c : CarriageId) (s : State) : State :=
  match (s.carriage c).job with
  | none => s
  | some j =>
    let t := s.beginLeg j.slot
    (t.setCarriage c ((t.carriage c).jobEnded j.destination.station)).arbitrate

/-- LOWER is answered by LOWERED with that bay (7.4). -/
def answersLowered (arg : Byte) (o : Order) : Bool :=
  match o with
  | .lower b => arg.toNat == b.val
  | _ => false

/-- LOWERED (R123). -/
def execLowered (c : CarriageId) (arg : Byte) (s : State) : Host.Outcome State Fault Refusal :=
  .next (s.report c (answersLowered arg) (State.lowered c))

/-- The fault code a FAULT report gives: the driver's, or PROTOCOL outside 4 to 15 (R116). -/
def reportedCode (code : Byte) : Nat := if 4 ≤ code.toNat ∧ code.toNat ≤ 15 then code.toNat else protocolCode

/-- FAULT_REPORT (R116, R125). -/
def execFaultReport (c : CarriageId) (code : Byte) (s : State) : Host.Outcome State Fault Refusal :=
  let t := (s.received (.link c)).begin.settle
  .next (if (t.carriage c).state.deaf then t else t.faultCarriage c (reportedCode code) .carriageFault)

/-- ORDER_EXPIRY (R117): the expiry the last beat left is taken (log 4, log 23). -/
def execOrderExpiry (c : CarriageId) (s : State) : Host.Outcome State Fault Refusal :=
  .next (s.begin.takeFollowUp (.expiry c))

/-- DRAIN_END (R121): the end of a drain the last beat left is taken (log 4, log 23). -/
def execDrainEnd (c : CarriageId) (s : State) : Host.Outcome State Fault Refusal :=
  .next (s.begin.takeFollowUp (.drain c))

/-- RUN_COMPLETE (R85, R86): the credit the last beat left is made (log 4, log 23). -/
def execRunComplete (st : StationNo) (s : State) : Host.Outcome State Fault Refusal :=
  .next (s.begin.takeFollowUp (.credit st))

end Sys2Proof.Machine
end

