-- ==== Sys2Proof/Machine/Stations.lean ====
section
/-! DEFINITION. The commands on stations, bays and baths: SET STATION, READ STATION, SET BAY SERVICE (R7 to R12), SET ACTIVITY and SET
BATH PARAMETERS (R88 to R90). -/

namespace Sys2Proof.Machine

/-- The total of the bay counts of all stations whose class is not UNUSED, with `st` taken at the class and bay count given
(R7). -/
def State.totalBays (st : StationNo) (cls : StationClass) (count : Nat) (s : State) : Nat :=
  (allStations.map fun i =>
    if i = st then (if cls = .unused then 0 else count)
    else if s.stations[i].cls = .unused then 0 else s.stations[i].bayCount).sum

/-- The bath of a station whose class changes: fresh on entering DEVELOP, given up on leaving it (R8). -/
def Station.bathChanged (old : StationClass) (x : Station) : Station :=
  if x.cls = .develop ∧ old ≠ .develop then
    { x with activity := 1024, deficit := 0, accumulator := 0, pendingRuns := 0, runRemaining := none }
  else if old = .develop ∧ x.cls ≠ .develop then { x with pendingRuns := 0, pump := none, runRemaining := none }
  else x

/-- The station record SET STATION writes (R8). -/
def Station.given (cls : StationClass) (count : Nat) (pattern : PatternNo) (x : Station) : Station :=
  { x with cls := cls, bayCount := count, pattern := pattern, bays := Vector.replicate 4 {} }.bathChanged x.cls

/-- The effects of an accepted SET STATION (R8): the channel of a pump given up keeps what it has until the next transfer (log 15). -/
def State.giveStation (st : StationNo) (cls : StationClass) (count : Nat) (pattern : PatternNo) (s : State) : State :=
  let x := s.stations[st]
  let leaving := x.cls = .develop ∧ cls ≠ .develop
  let t := s.setStation st (x.given cls count pattern)
  let u := if leaving then (t.unmark .exhausted st.val).unmark .replenishBacklog st.val else t
  if cls = .unused then u.unmark .sensorStale st.val else u

/-- The rule of SET STATION (R7, R8). -/
def setStationBody (p : List Byte) (s : State) : Reply :=
  if s.lineState ≠ .config then .refused .wrongLineState s.lineState.code
  else match p with
  | [a, b, c, d] => match stationOf a with
    | none => .refused .badForm 0
    | some st => match classOf b with
      | none => .refused .badForm 1
      | some cls =>
        if c.toNat = 0 ∨ 4 < c.toNat then .refused .badForm 2
        else match finOf 8 d with
        | none => .refused .badForm 3
        | some pattern =>
          if 48 < s.totalBays st cls c.toNat then .refused .tooManyBays (s.totalBays st cls c.toNat)
          else .accepted (s.giveStation st cls c.toNat pattern) 0 []
  | _ => .refused .badForm 4

/-- SET STATION (R7, R8). -/
def execSetStation (_m : Byte) (p : List Byte) (s : State) : Host.Outcome State Fault Refusal :=
  .next (s.request 0x10 p (setStationBody p))

/-- The rule of READ STATION (R9). -/
def readStationBody (p : List Byte) (s : State) : Reply :=
  match p with
  | [a] => match stationOf a with
    | some st => .accepted s 0 (s.stationData st)
    | none => .refused .badForm 0
  | _ => .refused .badForm 0

/-- READ STATION (R9). -/
def execReadStation (_m : Byte) (p : List Byte) (s : State) : Host.Outcome State Fault Refusal :=
  .next (s.request 0x11 p (readStationBody p))

/-- A bay taken out of service (R12). -/
def Bay.takenOut (b : Bay) : Bay :=
  match b.state with
  | .empty => { b with state := .disabled }
  | .disabled => b
  | .reserved _ => { b with deferred := true }
  | .occupied _ => { b with deferred := true }

/-- SET BAY SERVICE, in: a DISABLED bay becomes EMPTY and is offered, a bay in use loses its deferred-disable flag (R11, R12). -/
def State.putIn (d : BayRef) (s : State) : State :=
  match (s.bayAt d).state with
  | .empty => s
  | .disabled => (s.setBay d { s.bayAt d with state := .empty }).offerBay d
  | .reserved _ => s.setBay d { s.bayAt d with deferred := false }
  | .occupied _ => s.setBay d { s.bayAt d with deferred := false }

/-- The bay a SET BAY SERVICE names: below the bay count, of a station in use (R12). -/
def State.servedBay (st : StationNo) (b : Byte) (s : State) : Option BayRef :=
  match finOf 4 b with
  | some bay => if bay.val < s.stations[st].bayCount ∧ s.stations[st].cls ≠ .unused then some ⟨st, bay⟩ else none
  | none => none

/-- The rule of SET BAY SERVICE (R12; log 17). -/
def setBayServiceBody (p : List Byte) (s : State) : Reply :=
  match p with
  | [a, b, c] => match stationOf a with
    | none => .refused .badForm 0
    | some st =>
      if 1 < c.toNat then .refused .badForm 0
      else match s.servedBay st b with
      | none => .refused .noSuchBay 0
      | some d =>
        let t := if c = 0 then s.setBay d (s.bayAt d).takenOut else s.putIn d
        .accepted t (t.bayAt d).state.code []
  | _ => .refused .badForm 0

/-- SET BAY SERVICE (R12). -/
def execSetBayService (_m : Byte) (p : List Byte) (s : State) : Host.Outcome State Fault Refusal :=
  .next (s.request 0x12 p (setBayServiceBody p))

/-- An activity clamped to 512..1024 (R88). -/
def clampActivity (a : Nat) : Nat := max 512 (min 1024 a)

/-- The rule of SET ACTIVITY (R88). -/
def setActivityBody (p : List Byte) (s : State) : Reply :=
  match p with
  | [a, b, c] => match stationOf a with
    | none => .refused .badForm 1
    | some st =>
      let x := s.stations[st]
      let stored := clampActivity (num16 b c)
      if x.cls ≠ .develop then .refused .wrongClass x.cls.code
      else .accepted ((s.setStation st { x with activity := stored, deficit := 0 }).unmark .exhausted st.val)
        (bit (stored ≠ num16 b c)) (be16 stored)
  | _ => .refused .badForm 0

/-- SET ACTIVITY (R88). -/
def execSetActivity (_m : Byte) (p : List Byte) (s : State) : Host.Outcome State Fault Refusal :=
  .next (s.request 0x13 p (setActivityBody p))

/-- Another station that holds a pump channel (R89). -/
def State.otherOwner (st : StationNo) (pump : Option PumpNo) (s : State) : Option StationNo :=
  match pump with
  | none => none
  | some p => allStations.find? fun i => i ≠ st ∧ s.stations[i].pump = some p

/-- The station record with its five bath parameters written (R90). -/
def Station.withBath (exhaust quantum : Nat) (pump : Option PumpNo) (runLength restore : Nat) (x : Station) : Station :=
  { x with exhaust := exhaust, quantum := quantum, pump := pump, runLength := runLength, restore := restore }

/-- The five bath parameters are written; a run in progress on a pump channel that changes ends short first (R90). -/
def State.writeBath (st : StationNo) (exhaust quantum : Nat) (pump : Option PumpNo) (runLength restore : Nat) (s : State) :
    State :=
  let t := if s.stations[st].pump = pump then s else s.cutRunShort st
  t.setStation st (t.stations[st].withBath exhaust quantum pump runLength restore)

/-- The rule of SET BATH PARAMETERS, its tests in order (R89, R90). -/
def setBathParametersBody (p : List Byte) (s : State) : Reply :=
  match p with
  | [a, e1, e0, q1, q0, pc, rl, r1, r0] => match stationOf a with
    | none => .refused .badForm 1
    | some st =>
      if 4095 < num16 e1 e0 then .refused .badForm 2
      else if num16 q1 q0 = 0 ∨ 4095 < num16 q1 q0 then .refused .badForm 3
      else match pumpOf pc with
      | none => .refused .badForm 4
      | some pump =>
        if rl = 0 then .refused .badForm 5
        else if 512 < num16 r1 r0 then .refused .badForm 6
        else if s.stations[st].cls ≠ .develop then .refused .wrongClass s.stations[st].cls.code
        else match s.otherOwner st pump with
        | some o => .refused .channelInUse o.val
        | none =>
          .accepted (s.writeBath st (num16 e1 e0) (num16 q1 q0) pump rl.toNat (num16 r1 r0)) 0
            (be16 (num16 e1 e0) ++ be16 (num16 q1 q0) ++ [pumpByte pump, rl] ++ be16 (num16 r1 r0))
  | _ => .refused .badForm 0

/-- SET BATH PARAMETERS (R89, R90). -/
def execSetBathParameters (_m : Byte) (p : List Byte) (s : State) : Host.Outcome State Fault Refusal :=
  .next (s.request 0x14 p (setBathParametersBody p))

end Sys2Proof.Machine
end

