-- ==== Sys2Proof/Machine/Frames.lean ====
section
/-! DEFINITION. The request frame as bytes (R160, R161, R165): it is the host command it spells, or it is refused. -/

namespace Sys2Proof.Machine

/-- A command a request frame names is carried out by its own meaning; no other event is named by a request frame. -/
def runRequest (i : Instr) (s : State) : Host.Outcome State Fault Refusal :=
  match i with
  | .beat => .next s.begin
  | .reset => .next s.begin
  | .lineStopActive => .next s.begin
  | .lineStopInactive => .next s.begin
  | .readingFrame _ => .next s.begin
  | .arrived _ _ => .next s.begin
  | .parked _ _ => .next s.begin
  | .lifted _ _ => .next s.begin
  | .lowered _ _ => .next s.begin
  | .faultReport _ _ => .next s.begin
  | .orderExpiry _ => .next s.begin
  | .drainEnd _ => .next s.begin
  | .runComplete _ => .next s.begin
  | .completion => .next s.begin
  | .fetchFrame _ => .next s.begin
  | .requestFrame _ => .next s.begin
  | .identify m p => execIdentify m p s
  | .readLine m p => execReadLine m p s
  | .setLineParameters m p => execSetLineParameters m p s
  | .linkReset m p => execLinkReset m p s
  | .fullReset m p => execFullReset m p s
  | .startLine m p => execStartLine m p s
  | .stopLine m p => execStopLine m p s
  | .pauseLine m p => execPauseLine m p s
  | .resume m p => execResume m p s
  | .setStation m p => execSetStation m p s
  | .readStation m p => execReadStation m p s
  | .setBayService m p => execSetBayService m p s
  | .setActivity m p => execSetActivity m p s
  | .setBathParameters m p => execSetBathParameters m p s
  | .selectBank m p => execSelectBank m p s
  | .loadSteps m p => execLoadSteps m p s
  | .readSteps m p => execReadSteps m p s
  | .clearBank m p => execClearBank m p s
  | .setRateTable m p => execSetRateTable m p s
  | .readRateTable m p => execReadRateTable m p s
  | .admitHanger m p => execAdmitHanger m p s
  | .retire m p => execRetire m p s
  | .hold m p => execHold m p s
  | .release m p => execRelease m p s
  | .amend m p => execAmend m p s
  | .setDose m p => execSetDose m p s
  | .find m p => execFind m p s
  | .findMatching m p => execFindMatching m p s
  | .readRecords m p => execReadRecords m p s
  | .readQueue m p => execReadQueue m p s
  | .placeCarriage m p => execPlaceCarriage m p s
  | .recoverCarriage m p => execRecoverCarriage m p s
  | .disableCarriage m p => execDisableCarriage m p s
  | .enableCarriage m p => execEnableCarriage m p s
  | .readCarriage m p => execReadCarriage m p s
  | .setChannelMode m p => execSetChannelMode m p s
  | .enableOutputs m p => execEnableOutputs m p s
  | .setManualOutputs m p => execSetManualOutputs m p s
  | .setPattern m p => execSetPattern m p s
  | .readOutputs m p => execReadOutputs m p s
  | .ack m p => execAck m p s
  | .doneService m p => execDoneService m p s
  | .setMask m p => execSetMask m p s
  | .setLevel m p => execSetLevel m p s
  | .clearMark m p => execClearMark m p s
  | .readMarks m p => execReadMarks m p s
  | .reportFrameDiscarded _ => .next s.begin
  | .frameBrokenOff _ => .next s.begin

/-- REQUEST_FRAME (R160, R161, R165; log 22): the frame of a known command is that command; a malformed frame is refused with
BAD_FRAME and an unknown command code with BAD_COMMAND; a frame whose first byte is the fetch code is a fetch frame, and one
without a whole byte is ignored. -/
def execRequestFrame (bytes : List Byte) (s : State) : Host.Outcome State Fault Refusal :=
  match bytes with
  | [] => .next s.emptyFrame
  | code :: _ =>
    if code = 0 then execFetchFrame bytes.length s
    else match decodeRequest bytes with
    | some i => runRequest i s
    | none =>
      if frameWellFormed bytes then .next (s.refuseFrame code bytes.length .badCommand code.toNat)
      else .next (s.refuseFrame code bytes.length .badFrame (clockedDetail bytes.length))

end Sys2Proof.Machine
end

