-- ==== Sys2Proof/Machine/Dispatch.lean ====
section
/-! DEFINITION. One arm per command of the table. -/

namespace Sys2Proof.Machine

def exec (i : Instr) (s : State) : Host.Outcome State Fault Refusal :=
  match i with
  | .beat => Sys2Proof.Machine.execBeat s
  | .reset => Sys2Proof.Machine.execReset s
  | .lineStopActive => Sys2Proof.Machine.execLineStopActive s
  | .lineStopInactive => Sys2Proof.Machine.execLineStopInactive s
  | .readingFrame frame => Sys2Proof.Machine.execReadingFrame frame s
  | .arrived c arg => Sys2Proof.Machine.execArrived c arg s
  | .parked c arg => Sys2Proof.Machine.execParked c arg s
  | .lifted c arg => Sys2Proof.Machine.execLifted c arg s
  | .lowered c arg => Sys2Proof.Machine.execLowered c arg s
  | .faultReport c code => Sys2Proof.Machine.execFaultReport c code s
  | .orderExpiry c => Sys2Proof.Machine.execOrderExpiry c s
  | .drainEnd c => Sys2Proof.Machine.execDrainEnd c s
  | .runComplete st => Sys2Proof.Machine.execRunComplete st s
  | .completion => Sys2Proof.Machine.execCompletion s
  | .fetchFrame count => Sys2Proof.Machine.execFetchFrame count s
  | .requestFrame bytes => Sys2Proof.Machine.execRequestFrame bytes s
  | .identify m p => Sys2Proof.Machine.execIdentify m p s
  | .readLine m p => Sys2Proof.Machine.execReadLine m p s
  | .setLineParameters m p => Sys2Proof.Machine.execSetLineParameters m p s
  | .linkReset m p => Sys2Proof.Machine.execLinkReset m p s
  | .fullReset m p => Sys2Proof.Machine.execFullReset m p s
  | .startLine m p => Sys2Proof.Machine.execStartLine m p s
  | .stopLine m p => Sys2Proof.Machine.execStopLine m p s
  | .pauseLine m p => Sys2Proof.Machine.execPauseLine m p s
  | .resume m p => Sys2Proof.Machine.execResume m p s
  | .setStation m p => Sys2Proof.Machine.execSetStation m p s
  | .readStation m p => Sys2Proof.Machine.execReadStation m p s
  | .setBayService m p => Sys2Proof.Machine.execSetBayService m p s
  | .setActivity m p => Sys2Proof.Machine.execSetActivity m p s
  | .setBathParameters m p => Sys2Proof.Machine.execSetBathParameters m p s
  | .selectBank m p => Sys2Proof.Machine.execSelectBank m p s
  | .loadSteps m p => Sys2Proof.Machine.execLoadSteps m p s
  | .readSteps m p => Sys2Proof.Machine.execReadSteps m p s
  | .clearBank m p => Sys2Proof.Machine.execClearBank m p s
  | .setRateTable m p => Sys2Proof.Machine.execSetRateTable m p s
  | .readRateTable m p => Sys2Proof.Machine.execReadRateTable m p s
  | .admitHanger m p => Sys2Proof.Machine.execAdmitHanger m p s
  | .retire m p => Sys2Proof.Machine.execRetire m p s
  | .hold m p => Sys2Proof.Machine.execHold m p s
  | .release m p => Sys2Proof.Machine.execRelease m p s
  | .amend m p => Sys2Proof.Machine.execAmend m p s
  | .setDose m p => Sys2Proof.Machine.execSetDose m p s
  | .find m p => Sys2Proof.Machine.execFind m p s
  | .findMatching m p => Sys2Proof.Machine.execFindMatching m p s
  | .readRecords m p => Sys2Proof.Machine.execReadRecords m p s
  | .readQueue m p => Sys2Proof.Machine.execReadQueue m p s
  | .placeCarriage m p => Sys2Proof.Machine.execPlaceCarriage m p s
  | .recoverCarriage m p => Sys2Proof.Machine.execRecoverCarriage m p s
  | .disableCarriage m p => Sys2Proof.Machine.execDisableCarriage m p s
  | .enableCarriage m p => Sys2Proof.Machine.execEnableCarriage m p s
  | .readCarriage m p => Sys2Proof.Machine.execReadCarriage m p s
  | .setChannelMode m p => Sys2Proof.Machine.execSetChannelMode m p s
  | .enableOutputs m p => Sys2Proof.Machine.execEnableOutputs m p s
  | .setManualOutputs m p => Sys2Proof.Machine.execSetManualOutputs m p s
  | .setPattern m p => Sys2Proof.Machine.execSetPattern m p s
  | .readOutputs m p => Sys2Proof.Machine.execReadOutputs m p s
  | .ack m p => Sys2Proof.Machine.execAck m p s
  | .doneService m p => Sys2Proof.Machine.execDoneService m p s
  | .setMask m p => Sys2Proof.Machine.execSetMask m p s
  | .setLevel m p => Sys2Proof.Machine.execSetLevel m p s
  | .clearMark m p => Sys2Proof.Machine.execClearMark m p s
  | .readMarks m p => Sys2Proof.Machine.execReadMarks m p s
  | .reportFrameDiscarded c => Sys2Proof.Machine.execReportFrameDiscarded c s
  | .frameBrokenOff line => Sys2Proof.Machine.execFrameBrokenOff line s

end Sys2Proof.Machine
end

