-- ==== Sys2Proof/Safety.lean ====
section
/-! DEFINITION. The words in which statements about the part are made: when the link listens, what a response or a refusal leaves,
which fields line events never touch, what a lift and the offer of a bay do, and the invariants that every step keeps. -/

namespace Sys2Proof.Machine

/-- A request frame that ends now is taken: the response buffer is not WORKING (R161), and no reset has abandoned the frame (R160). -/
def State.listening (s : State) : Bool :=
  !s.frameAbandoned && match s.buffer with
    | .working _ => false
    | _ => true

/-- The state after a request frame found in `s` that was accepted with the effects of `t` (R161, R162, R165). -/
def State.okay (code : Byte) (detail : Nat) (data : List Byte) (s t : State) : State :=
  t.answer code s.buffer.isReady .accepted none detail data

/-- The state after a request frame of `n` bytes that was refused: the take's effects and the response alone (R165). -/
def State.refusedAs (code : Byte) (n : Nat) (reason : Reason) (detail : Nat) (s : State) : State :=
  (s.takeFrame n).answer code s.buffer.isReady .refused (some reason) detail []

/-- The state in which a report on the link of carriage `c` finds the line: what the last beat left is settled (log 4). -/
def State.heard (c : CarriageId) (s : State) : State := (s.received (.link c)).begin.settle

/-- The state in which an event that is not a report finds the line. -/
def State.found (s : State) : State := s.begin.settle

/-- The command an event of the link carries out: that of its frame, for a request frame given as bytes (R160, R165). -/
def meantBy : Instr → Instr
  | .requestFrame bytes => (decodeRequest bytes).getD (.requestFrame bytes)
  | i => i

/-- A step as a bank holds it (R19, R20): a recipe class, EXACT exactly for DEVELOP, and every number in its range, with a maximum
overstay on TIMED steps alone. -/
def Step.storable (k : Step) : Prop :=
  isStepClass k.cls = true ∧ (k.kind = .exactDose ↔ k.cls = .develop) ∧ 1 ≤ k.time ∧ k.time ≤ 16383 ∧ k.maxOverstay ≤ 16383 ∧
    (k.kind ≠ .timed → k.maxOverstay = 0) ∧ k.drain ≤ 255

/-- The fields that no movement of hangers and carriages touches. -/
structure Settings where
  prescaler   : Nat
  beat        : Beat
  lineState   : LineState
  stopActive  : Bool
  banks       : Vector Bank 32
  loadArea    : Option LoadArea
  rates       : Vector Nat 17
  tagIndex    : List (Nat × Slot)
  patterns    : Vector Pattern 7
  levels      : Vector Nat 13
  mask        : Nat
  maskStack   : List Nat
  params      : LineParams
  buffer      : Buffer
  sequence    : Byte
  bankPointer : BankNo
  openFrame   : Option OpenFrame
  receivers   : Receivers
  shifted     : List Byte
  due         : List FollowUp
  draws       : Nat
  pending     : List Instr
deriving DecidableEq, Repr

/-- A beat starts a run of a station's pump (R84): a DEVELOP station with a replenishment pending and no run in progress, its pump channel
in AUTO and enabled, and the LINE STOP input inactive. -/
def State.startsRun (s : State) (st : StationNo) : Prop :=
  s.stations[st].cls = .develop ∧ s.stations[st].runRemaining = none ∧ 0 < s.stations[st].pendingRuns ∧ s.stopActive = false ∧
    ∃ p, s.stations[st].pump = some p ∧ s.channels[pumpChannel p].mode = .auto ∧ s.channels[pumpChannel p].enable = true

/-- The settings of a state. -/
def State.settings (s : State) : Settings where
  prescaler := s.prescaler
  beat := s.beat
  lineState := s.lineState
  stopActive := s.stopActive
  banks := s.banks
  loadArea := s.loadArea
  rates := s.rates
  tagIndex := s.tagIndex
  patterns := s.patterns
  levels := s.levels
  mask := s.mask
  maskStack := s.maskStack
  params := s.params
  buffer := s.buffer
  sequence := s.sequence
  bankPointer := s.bankPointer
  openFrame := s.openFrame
  receivers := s.receivers
  shifted := s.shifted
  due := s.due
  draws := s.draws
  pending := s.pending

/-- A carriage record in FAULT, with the job it keeps (R125): its position is unknown if it was on its way. -/
def Carriage.stopped (x : Carriage) (code : Nat) (job : Option Job) : Carriage :=
  { x with
    state := .fault
    position := if x.state = .toSource ∨ x.state = .toDest ∨ x.state = .yielding ∨
        (x.state = .halted ∧ ∃ st, x.halted = some (.goto st)) ∨ (x.state = .halted ∧ x.halted = some .park)
      then none else x.position
    job := job
    order := none
    halted := none
    faultCode := some code }

/-- What the entry of carriage `c` into FAULT leaves, from `u` to `t` (R52, R125 to R127): the code and the mark; no order; the span as
it was; the position unknown if it was travelling; a job that had not sent LIFT given back to the queue, where the other carriage may
take it at once; a hanger lifted or being lifted FAULTED, with its carriage keeping the job and nothing else of the line touched. -/
def State.entersFault (c : CarriageId) (code : Nat) (reason : FaultReason) (u t : State) : Prop :=
  t.settings = u.settings ∧ t.hasMark .carriageFault (carriageNumber c) = true ∧
    match (u.carriage c).job with
    | none => t.carriage c = (u.carriage c).stopped code none ∧ t.hangers = u.hangers ∧ t.queue = u.queue ∧
        t.carriage (otherCarriage c) = u.carriage (otherCarriage c) ∧ t.sent = u.sent ∧ t.stations = u.stations
    | some j =>
      if j.phase = .toSource ∨ j.phase = .awaitLift then
        t.carriage c = (u.carriage c).stopped code none ∧
          (⟨j.slot, j.cls, j.deadline, j.source, some j.destination⟩ ∈ t.queue ∨
            ∃ k, (t.carriage (otherCarriage c)).job = some k ∧ k.slot = j.slot) ∧ t.stations = u.stations
      else
        t.carriage c = (u.carriage c).stopped code (some j) ∧ t.queue = u.queue ∧
          t.carriage (otherCarriage c) = u.carriage (otherCarriage c) ∧ t.sent = u.sent ∧ t.stations = u.stations ∧
          (∀ h, u.hangers[j.slot] = some h →
            t.hangers[j.slot] = some { h with state := .faulted, faultReason := some reason } ∧
              t.hasMark .hangerFault j.slot.val = true) ∧
          ∀ i : Slot, i ≠ j.slot → t.hangers[i] = u.hangers[i]

/-- A latch is on only with the enable set and the staged value on, and no enable is set while the LINE STOP input is active (R136,
R143, R151). -/
def State.outputsSafe (s : State) : Prop :=
  ∀ ch : ChannelNo,
    (s.channels[ch].latch = true → s.channels[ch].enable = true ∧ s.channels[ch].staged = true) ∧
    (s.stopActive = true → s.channels[ch].enable = false)

/-- The current mask lies below the saved masks, and those rise from the top of the stack to its bottom, which is at most 7; no level
is above 7 (R176, R177). -/
def State.masksNest (s : State) : Prop :=
  (s.mask :: s.maskStack).Pairwise (· < ·) ∧ (∀ m ∈ s.mask :: s.maskStack, m ≤ 7) ∧ ∀ k : Fin 13, s.levels[k] ≤ 7

/-- The fields of a station record lie in their ranges, and a deficit stands only at the floor of the activity (R7, R13, R14, R16, R81,
R82). -/
def Station.inRange (x : Station) : Prop :=
  1 ≤ x.bayCount ∧ x.bayCount ≤ 4 ∧ (∀ n, x.latest = some n → n ≤ 1023) ∧ (∀ n, x.heldValue = some n → n ≤ 1022) ∧
    x.age ≤ 255 ∧ 512 ≤ x.activity ∧ x.activity ≤ 1024 ∧ x.deficit ≤ 65535 ∧
    (0 < x.deficit → x.activity = 512) ∧ x.exhaust ≤ 4095 ∧ x.accumulator ≤ 4094 ∧ 1 ≤ x.quantum ∧ x.quantum ≤ 4095 ∧
    1 ≤ x.runLength ∧ x.runLength ≤ 255 ∧ x.restore ≤ 512 ∧ x.pendingRuns ≤ 3 ∧
    ∀ k, x.runRemaining = some k → 1 ≤ k ∧ k ≤ 255

/-- The fields of a hanger record lie in their ranges (R34, R59, R61): the leg is at most 13, and at most 12 while the hanger still has
a place to go to; a target is 8 to 786,384 DU. -/
def Hanger.inRange (h : Hanger) : Prop :=
  1 ≤ h.tag ∧ h.tag ≤ 4095 ∧ -50 ≤ h.push ∧ h.push ≤ 200 ∧ h.area ≤ 4095 ∧ h.leg ≤ 13 ∧ (h.destination ≠ none → h.leg ≤ 12) ∧
    h.dose ≤ 16777215 ∧ h.fraction < 262144 ∧ (∀ n, h.target = some n → 8 ≤ n ∧ n ≤ 786384) ∧
    ∀ n, h.overshoot = some n → n ≤ 16777215

/-- A bank holds at most 12 steps, each of them one a bank can hold (R18, R19). -/
def Bank.inRange (b : Bank) : Prop := b.steps.length ≤ 12 ∧ ∀ k ∈ b.steps, k.storable

/-- An open load area has a total of 1 to 12 steps, fewer gathered, and gathers only steps that a bank can hold (R26 to R28). -/
def LoadArea.inRange (a : LoadArea) : Prop :=
  1 ≤ a.total ∧ a.total ≤ 12 ∧ a.gathered.length < a.total ∧ ∀ k ∈ a.gathered, k.storable

/-- The fault code of a carriage, where it has one, is 1 to 15 (R109, R186). -/
def Carriage.inRange (x : Carriage) : Prop := ∀ n, x.faultCode = some n → 1 ≤ n ∧ n ≤ 15

/-- The six line parameters lie in their ranges (R171). -/
def LineParams.inRange (x : LineParams) : Prop :=
  x.callLead ≤ 255 ∧ x.tolerance ≤ 255 ∧ 8 ≤ x.sensorTimeout ∧ x.sensorTimeout ≤ 255 ∧ x.travelBase ≤ 255 ∧ x.perStation ≤ 255 ∧
    1 ≤ x.liftTimeout ∧ x.liftTimeout ≤ 255

/-- An entry of the pattern table lies in its range (R138). -/
def Pattern.inRange (x : Pattern) : Prop := x.initial ≤ 255 ∧ 1 ≤ x.burst ∧ x.burst < x.period ∧ x.period ≤ 255

/-- The Move Queue holds at most one request of a slot, in order of slots, and so at most 48 (R92, R93). -/
def State.queueInRange (s : State) : Prop := s.queue.Pairwise (fun a b => a.slot < b.slot) ∧ s.queue.length ≤ 48

/-- Every count the part keeps lies in its range (R1, R62 and the ranges of the records). -/
def State.countsInRange (s : State) : Prop :=
  s.prescaler ≤ 4095 ∧ (∀ st : StationNo, s.stations[st].inRange) ∧ (∀ slot : Slot, ∀ h, s.hangers[slot] = some h → h.inRange) ∧
    (∀ b : BankNo, s.banks[b].inRange) ∧ (∀ a, s.loadArea = some a → a.inRange) ∧ s.queueInRange ∧
    s.carriage1.inRange ∧ s.carriage2.inRange ∧ (∀ i : Fin 17, 64 ≤ s.rates[i] ∧ s.rates[i] ≤ 1023) ∧
    (∀ e : Fin 7, s.patterns[e].inRange) ∧ s.params.inRange

/-- The subjects of each kind's mark stand in rising order, and each is one the kind can have: 0 for the line, a slot, a station, or
carriage 1 or 2 (R175). -/
def State.marksInOrder (s : State) : Prop :=
  ∀ k : Kind, (s.marked k).Pairwise (· < ·) ∧ ∀ n ∈ s.marked k, match k.subject with
    | .line => n = 0
    | .slot => n < 48
    | .station => n < 16
    | .carriage => n = 1 ∨ n = 2

/-- The Hanger Table, the tag index and the use counts agree: the index holds each live record's tag with its slot and nothing else,
no two records carry one tag, and each bank's use count is the number of live records that name it (R25, R35). -/
def State.tableAgrees (s : State) : Prop :=
  s.tagIndex.Pairwise (fun a b => a.1 < b.1) ∧
    (∀ tag (slot : Slot), (tag, slot) ∈ s.tagIndex ↔ ∃ h, s.hangers[slot] = some h ∧ h.tag = tag) ∧
    ∀ b : BankNo, s.banks[b].useCount = s.hangers.toList.countP fun o => o.any fun h => h.bank == b

/-- While the line is STOPPED no order is outstanding on either carriage link (R152, R154). -/
def State.stoppedQuiet (s : State) : Prop :=
  s.lineState = .stopped → s.carriage1.order = none ∧ s.carriage2.order = none

/-- A carriage's span takes in a rail position. -/
def Carriage.covers (x : Carriage) (q : Int) : Prop := ∃ w, x.span = some w ∧ w.lo ≤ q ∧ q ≤ w.hi

/-- A PARK order is outstanding, or was when the carriage was halted. -/
def Carriage.parking (x : Carriage) : Prop :=
  (∃ b, x.order = some ⟨.park, b⟩) ∨ (x.state = .halted ∧ x.halted = some .park)

/-- The least and the greatest position a span of the carriage may take in (R109, R111). -/
def lowestOf : CarriageId → Int
  | .one => -1
  | .two => 0
def highestOf : CarriageId → Int
  | .one => 15
  | .two => 16

/-- What the span of a carriage takes in, whatever the carriage does next (R110, R111): its position alone while it is free, the
stations of its job, and its park while it is sent there. -/
def Carriage.spanHolds (c : CarriageId) (x : Carriage) : Prop :=
  (∀ w, x.span = some w → lowestOf c ≤ w.lo ∧ w.lo ≤ w.hi ∧ w.hi ≤ highestOf c) ∧
    (x.isFree = true → x.order = none ∧ x.job = none ∧ ∃ p, x.position = some p ∧ x.span = some ⟨p, p⟩) ∧
    (∀ j, x.job = some j → x.covers j.source.station.val ∧ x.covers j.destination.station.val ∧
      j.phase ≠ .idle ∧ j.phase ≠ .parked) ∧
    (x.parking → x.job = none ∧ x.covers (parkOf c))

/-- Whenever both carriages hold spans, every position of carriage 1's span is lower than every position of carriage 2's (R111). -/
def State.spansApart (s : State) : Prop :=
  ∀ a b, s.carriage1.span = some a → s.carriage2.span = some b → a.hi < b.lo

/-- The order of the rail, with what keeps it (R111). -/
def State.railOrder (s : State) : Prop :=
  s.spansApart ∧ s.carriage1.spanHolds .one ∧ s.carriage2.spanHolds .two

/-- A carriage with a job is in the job's phase, or in FAULT or HALTED, and is not sent to its park (R109, R110). -/
def Carriage.jobAgrees (x : Carriage) : Prop :=
  ∀ j, x.job = some j → j.phase ∈ [CarriageState.toSource, .awaitLift, .lifting, .draining, .toDest, .lowering] ∧
    (x.state = j.phase ∨ x.state = .fault ∨ x.state = .halted) ∧ ¬x.parking

/-- The hanger waits in its bay for a carriage: it is ADMITTED and not held, or DUE (R36, R94). -/
def Hanger.waits (h : Hanger) : Prop := (h.state = .admitted ∧ h.held = false) ∨ h.state = .due

/-- Every request and every job is of a live record that has its destination, and no other record has a destination; a slot has one
request or one job at most (R93, R109). A record with a request waits in its bay; one with a job waits too, or has been lifted and is not
REMOVED (R50, R52, R54). -/
def State.movesOfRecords (s : State) : Prop :=
  s.queue.Pairwise (fun a b => a.slot < b.slot) ∧
    (∀ q ∈ s.queue, (∀ c j, (s.carriage c).job = some j → j.slot ≠ q.slot) ∧
      ∃ h, s.hangers[q.slot] = some h ∧ h.destination = q.destination ∧ h.waits) ∧
    (∀ j k, s.carriage1.job = some j → s.carriage2.job = some k → j.slot ≠ k.slot) ∧
    (∀ c j, (s.carriage c).job = some j → ∃ h, s.hangers[j.slot] = some h ∧ h.destination = some j.destination ∧
      (h.waits ∨ (j.beforeLift = false ∧ (h.state = .inTransit ∨ (h.state = .faulted ∧ h.faultReason ≠ some .removed))))) ∧
    ∀ slot : Slot, ∀ h, s.hangers[slot] = some h → h.destination ≠ none →
      (∃ q ∈ s.queue, q.slot = slot) ∨ ∃ c j, (s.carriage c).job = some j ∧ j.slot = slot

/-- The moves of the line agree: with the records, with the states of the carriages, with HOLD, which keeps a record ADMITTED or on an
OPEN leg (R44), and with CONFIG, in which no record lives (R5). -/
def State.movesAgree (s : State) : Prop :=
  s.movesOfRecords ∧ s.carriage1.jobAgrees ∧ s.carriage2.jobAgrees ∧
    (∀ slot : Slot, ∀ h, s.hangers[slot] = some h → h.held = true →
      h.state = .admitted ∨ (h.state = .immersed ∧ s.legKind h = some .openEnded)) ∧
    (s.lineState = .config → ∀ slot : Slot, s.hangers[slot] = none)

/-- The arbiter is at rest: in RUN no request whose destination is resolved could be granted (R113, R114). -/
def State.arbiterAtRest (s : State) : Prop :=
  s.lineState = .run → ∀ q ∈ s.queue, ∀ d, q.destination = some d → s.taker q.source.station d.station = none

/-- The rail is safe: the table, the moves and the arbiter are as every step keeps them, and the spans keep their order (R111). -/
def State.railSafe (s : State) : Prop := s.tableAgrees ∧ s.movesAgree ∧ s.arbiterAtRest ∧ s.railOrder

/-- The record `h` of a slot is lifted by a LIFT order, between `u` and `t` (R50, R75, R76): it is IN_TRANSIT without a position, and on an
EXACT leg its overshoot is dose − target, with OVERSHOOT set where that exceeds (target × tolerance) div 1000; all else of it stays. -/
def State.liftsRecord (slot : Slot) (h : Hanger) (u t : State) : Prop :=
  t.hangers[slot] = some { h with
    state := .inTransit
    position := none
    overshoot := if u.legKind h = some .exactDose then h.target.map (h.dose - ·) else h.overshoot } ∧
  (t.hasMark .overshoot slot.val = true ↔ u.hasMark .overshoot slot.val = true ∨
    (u.legKind h = some .exactDose ∧ ∃ tg, h.target = some tg ∧ tg * u.params.tolerance / 1000 < h.dose - tg))

/-- Carriage `c` sends LIFT for its job `j`, whose record is `h` at the order, between `u` and `t` (R117, R120, R140): it is LIFTING, with
the order outstanding, the record is lifted, and the valve of the station it stands over, if in AUTO, is shut. -/
def State.sendsLift (c : CarriageId) (j : Job) (h : Hanger) (u t : State) : Prop :=
  (t.carriage c).state = .lifting ∧ (t.carriage c).job = some { j with phase := .lifting } ∧
    (t.carriage c).order = some ⟨.lift j.source.bay, beatPlus t.beat u.params.liftTimeout⟩ ∧ (c, .lift j.source.bay) ∈ t.sent ∧
    State.liftsRecord j.slot h u t ∧
    ((t.carriage c).position = some (j.source.station.val : Int) → t.channels[valveOf j.source.station].mode = .auto →
      t.channels[valveOf j.source.station].staged = false ∧ t.channels[valveOf j.source.station].latch = false)

/-- A station is a candidate for the next leg of a hanger (R95): the pinned station of its next step, any station of that step's class,
or any UNLOAD station after the last step. -/
def State.leadsTo (s : State) (h : Hanger) (st : StationNo) : Prop :=
  match (s.stepsOf h)[h.leg]? with
  | some k => match k.pinned with
    | some p => st = p
    | none => s.stations[st].cls = k.cls
  | none => h.leg = (s.stepsOf h).length ∧ s.stations[st].cls = .unload

/-- A request is pending and fits a bay of a station (R99). -/
def State.fitsBay (s : State) (st : StationNo) (q : Request) : Prop :=
  q.destination = none ∧ ∃ h, s.hangers[q.slot] = some h ∧ s.leadsTo h st

/-- The request that takes an EMPTY bay of a station: pending, it fits the bay, and no other that fits it stands ahead (R93, R99). -/
def State.takesBay (s : State) (st : StationNo) (r : Request) : Prop :=
  r ∈ s.queue ∧ s.fitsBay st r ∧ ∀ q ∈ s.queue, s.fitsBay st q → requestAhead s.beat q r = false

/-- A bay that became EMPTY at an event was offered, between `u` and `t` (R97, R99): it is left EMPTY only where none of the requests that
are left pending fits it; else it is RESERVED by the slot of a request that was pending and fitted it, whose record and request, which may
have become a job, have it as their destination, without BAY_PENDING, and no fitting request that is left pending stood ahead of that one
(R93). -/
def State.offersBay (d : BayRef) (u t : State) : Prop :=
  ((t.bayAt d).state = .empty ∧ ∀ q ∈ u.queue, q ∈ t.queue → ¬u.fitsBay d.station q) ∨
  ∃ q ∈ u.queue, u.fitsBay d.station q ∧ (t.bayAt d).state = .reserved q.slot ∧ t.hasMark .bayPending q.slot.val = false ∧
    (∃ h, t.hangers[q.slot] = some h ∧ h.destination = some d) ∧
    ((∃ r ∈ t.queue, r.slot = q.slot ∧ r.destination = some d) ∨
      ∃ c j, (t.carriage c).job = some j ∧ j.slot = q.slot ∧ j.destination = d) ∧
    ∀ r ∈ u.queue, r ∈ t.queue → u.fitsBay d.station r → requestAhead u.beat r q = false

/-- The form tests of a command that names a slot in its first payload byte and has `need` bytes after it (R38, R77), each of them with
its refusal: no slot, a slot above 47, a vacant slot, and another length. -/
def slotFormsRefused (code : Byte) (need : Nat) (c : List Byte → Instr) : Prop :=
  ∀ (p : List Byte) (s : State), s.listening = true → p.length ≤ 64 →
    let t := s.takeFrame (3 + p.length)
    let refuses : Reason → Nat → Prop := fun r n => exec (c p) s = .next (s.refusedAs code (3 + p.length) r n)
    (p = [] → refuses .badForm 0) ∧ (∀ a rest, p = a :: rest → 48 ≤ a.toNat → refuses .badForm 0) ∧
      ∀ (slot : Slot) (rest : List Byte), p = byte slot.val :: rest →
        (t.hangers[slot] = none → refuses .noRecord slot.val) ∧
        ((t.hangers[slot]).isSome → rest.length ≠ need → refuses .badForm 1)

/-- The form tests of a command whose payload is a carriage, a position and `more` further bytes (7.7), each of them with its refusal:
another length or another carriage, and a position out of the carriage's range. -/
def placementFormsRefused (code : Byte) (more : Nat) (c : List Byte → Instr) : Prop :=
  ∀ (p : List Byte) (s : State), s.listening = true → p.length ≤ 64 →
    let refuses : Nat → Prop := fun n => exec (c p) s = .next (s.refusedAs code (3 + p.length) .badForm n)
    (p.length ≠ 2 + more → refuses 0) ∧
      ∀ (a b : Byte) (rest : List Byte), p = a :: b :: rest → rest.length = more →
        (a ≠ 1 → a ≠ 2 → refuses 0) ∧ (a = 1 → 16 < b.toNat → refuses 1) ∧ (a = 2 → b.toNat = 0 ∨ 17 < b.toNat → refuses 1)

end Sys2Proof.Machine
end

