-- ==== Sys2Proof/WellFormed.lean ====
section
/-! DEFINITION. The form of a command that its sender can send. The meanings are total: they also say what the part does with a
term that fails these checks. -/

namespace Sys2Proof

/-- A request frame's payload is at most 64 bytes (R161). -/
def payloadFits (p : List Byte) : Bool := p.length ≤ 64

/-- A host command fits a request frame (R161); a fetch frame holds at least the fetch code (R160); a request frame holds at
least one byte, which is not the fetch code (R160); a reading frame is one the receiver takes (R15). -/
def Instr.wellFormed (i : Instr) : Bool :=
  match i with
  | .fetchFrame count => 1 ≤ count
  | .requestFrame bytes => match bytes with
    | [] => false
    | b :: _ => b != 0
  | .readingFrame frame => (decodeReading frame).isSome
  | i => match i.request with
    | some q => payloadFits q.2.2
    | none => true

end Sys2Proof
end

