-- ==== Sys2Proof/Certificates/Slice0/Obligations.lean ====
section
/-! DEFINITION. The statements for the provers: what the rules of the manual say the commands and the part do. Where a statement rests on a
choice of the model its docstring names the log entry. `s.takeFrame n` is the state of the take of a request frame of `n` bytes (R161),
`s.heard c` and `s.found` the state in which a report or another event of the line finds it (log 4). -/

section

open Sys2Proof Sys2Proof.Machine

/-! ### The block, reset and the link -/

/-- The block's interface: a step carries out the command at the front of the queue on the state with the queue's rest. -/
def Obligations.StepTakesFront : Prop :=
  ∀ (c : Instr) (rest : List Instr) (s : State),
    Machine.step { s with pending := c :: rest } = Machine.exec c { s with pending := rest }

/-- No command stops the part, none touches the queue of waiting commands, and only the two edges of the LINE STOP input change the
level of that input (R165, R151, R155; log 7). -/
def Obligations.EveryCommandAnswers : Prop :=
  ∀ (i : Instr) (s : State), ∃ t, Machine.exec i s = .next t ∧ t.pending = s.pending ∧
    (i ≠ .lineStopActive → i ≠ .lineStopInactive → t.stopActive = s.stopActive)

/-- The reset values of R1, R3, R17, R33, R57, R62, R108, R134, R138, R147, R174, R176 and R182, written out. RESET and FULL RESET give
them all (R173), read the LINE STOP input at their end (R159), and send HALT on both links (R134). RESET abandons a frame in progress,
which keeps the buffer it began with (R160, R174); whether one is in progress, and how far it is, are free (log 33); FULL RESET's own has
ended. The level of the input, the counter of free values and the waiting commands stay (log 7, log 8). That what the last beat left to
follow it is lost at either reset, with no order of it sent, is the model's choice (log 4, unsafe). -/
def Obligations.ResetRestoresThePart : Prop :=
  ∀ (m : Byte) (p : List Byte) (s : State),
    let station : Station := {
      cls := .unused, bayCount := 1, bays := Vector.replicate 4 ⟨.empty, false⟩, pattern := 0, latest := none,
      heldValue := none, age := 255, valid := false, activity := 1024, deficit := 0, exhaust := 64, accumulator := 0, quantum := 200,
      pump := none, runLength := 16, restore := 24, pendingRuns := 0, runRemaining := none, phaseOrigin := 0 }
    let carriage : Carriage := {
      state := .unplaced, enabled := true, position := none, span := none, job := none, order := none,
      halted := none, faultCode := none }
    let fresh : State := {
      prescaler := 0, beat := 0, lineState := .config, stopActive := s.stopActive,
      stations := Vector.replicate 16 station, banks := Vector.replicate 32 ⟨[], 0⟩, loadArea := none,
      rates := #v[177, 194, 213, 233, 256, 281, 308, 338, 370, 406, 446, 489, 536, 588, 645, 708, 776],
      hangers := Vector.replicate 48 none, tagIndex := [], queue := [], carriage1 := carriage, carriage2 := carriage,
      channels := Vector.replicate 20 ⟨.off, false, false, false⟩,
      patterns := #v[⟨0, 8, 80⟩, ⟨40, 8, 80⟩, ⟨80, 16, 240⟩, ⟨16, 4, 40⟩, ⟨0, 1, 2⟩, ⟨255, 16, 160⟩, ⟨0, 254, 255⟩],
      marks := if s.stopActive then (Vector.replicate 13 []).set 0 [0] else Vector.replicate 13 [],
      levels := #v[0, 1, 1, 2, 3, 3, 3, 4, 4, 4, 5, 5, 7], mask := 0, maskStack := [], params := ⟨40, 20, 64, 16, 12, 80⟩,
      buffer := .empty, sequence := 0, bankPointer := 0, openFrame := none, receivers := ⟨true, true, true⟩,
      sent := [(.one, .halt), (.two, .halt)], shifted := [], due := [], draws := s.draws, pending := s.pending }
    let head : Byte := match s.openFrame with
      | some (.begunWorking _) => 0x02
      | some (.abandoned begun _) => begun.code
      | none => s.buffer.code
    Machine.exec .reset s = .next { fresh with
        openFrame := match s.openFrame with
          | some (.begunWorking r) => some (.abandoned (.working r) (Config.bytesClocked s.draws))
          | some (.abandoned begun clocked) => some (.abandoned begun clocked)
          | none => if Config.selectAsserted s.draws = true then some (.abandoned s.buffer (Config.bytesClocked s.draws)) else none
        draws := s.draws + 1 } ∧
      (s.listening = true → Machine.exec (.fullReset m []) s = .next { fresh with shifted := [head, 0xFF, 0xFF] }) ∧
      (s.listening = true → p ≠ [] → p.length ≤ 64 →
        Machine.exec (.fullReset m p) s = .next (s.refusedAs 0x05 (3 + p.length) .badForm 0)) ∧
      ({ State.reset with stopActive := s.stopActive, draws := s.draws, pending := s.pending } : State) =
        { fresh with marks := Vector.replicate 13 [] }

/-- LINK RESET (R172): at the take the link bank pointer and the sequence count become 0, and its own response, with sequence 0 and no
discard flag, goes into assembly; nothing else is the command's. The state is that of the take, in which what the last beat left is
settled, as before every command (the model's choice, log 4). With a payload it is refused, and while WORKING it is dropped (R161,
R164). -/
def Obligations.LinkResetClearsTheLink : Prop :=
  ∀ (m : Byte) (p : List Byte) (s : State),
    (s.listening = true → Machine.exec (.linkReset m []) s = .next { s.takeFrame 3 with
      bankPointer := 0
      sequence := 0
      buffer := .working { result := .accepted, echo := 0x04, reason := none, detail := 0, data := [], overrun := false,
                           discard := false, lineState := s.lineState, sequence := 0 } }) ∧
    (s.listening = true → p ≠ [] → p.length ≤ 64 →
      Machine.exec (.linkReset m p) s = .next (s.refusedAs 0x04 (3 + p.length) .badForm 0)) ∧
    ∀ r, (∀ begun clocked, s.openFrame ≠ some (.abandoned begun clocked)) → s.buffer = .working r →
      Machine.exec (.linkReset m p) s = .next { s with
      sent := [], shifted := s.frameOut (3 + p.length), buffer := .working { r with overrun := true }, openFrame := none }

/-- The take of a request frame settles what the last beat left, counts the frame, and touches no other setting (R161; log 4); while
the buffer is WORKING a frame of any command is dropped and sets the overrun flag alone (R161, R164); a frame of any kind that a reset
abandoned is ignored (R160). What is shifted out is the buffer state as it stood at select's assertion, and filler, in an abandoned
request frame too (R160). An abandoned fetch frame shifts out what every fetch does (R163), but that where it began READY the bytes
that stand after the reset in the place of the response are free (log 9, log 33). -/
def Obligations.RequestsAreTakenOrDropped : Prop :=
  (∀ (n : Nat) (s : State), (s.takeFrame n).settings =
    { s.settings with sequence := s.sequence + 1, shifted := s.frameOut n, due := [], draws := s.draws + 1, openFrame := none }) ∧
  (∀ (n : Nat) (s : State), s.due = [] → s.takeFrame n =
    { s with sequence := s.sequence + 1, shifted := s.frameOut n, sent := [], draws := s.draws + 1, openFrame := none }) ∧
  (∀ (n : Nat) (s : State), s.frameOut (n + 1) =
    (match s.openFrame with
      | some (.begunWorking _) => 0x02
      | some (.abandoned begun _) => begun.code
      | none => s.buffer.code) :: List.replicate n 0xFF) ∧
  (∀ (i : Instr) (q : Byte × Byte × List Byte) (r : Response) (s : State), i.request = some q →
    (∀ begun clocked, s.openFrame ≠ some (.abandoned begun clocked)) → s.buffer = .working r → Machine.exec i s = .next { s with
      sent := [], shifted := 0x02 :: List.replicate (2 + q.2.2.length) 0xFF, buffer := .working { r with overrun := true },
      openFrame := none }) ∧
  ∀ (n : Nat) (begun : Buffer) (clocked : Nat) (s : State), s.openFrame = some (.abandoned begun clocked) →
    let head : Byte := match begun with
      | .empty => 0x01
      | .working _ => 0x02
      | .ready _ => 0x03
    (∀ i : Instr, (∃ q, i.request = some q ∧ n = 2 + q.2.2.length) ∨
        (∃ code rest, i = .requestFrame (code :: rest) ∧ code ≠ 0 ∧ n = rest.length) →
      Machine.exec i s = .next { s with sent := [], shifted := head :: List.replicate n 0xFF, openFrame := none }) ∧
    ∃ rest, rest.length = n ∧
      Machine.exec (.fetchFrame (n + 1)) s =
        .next { s with sent := [], shifted := head :: rest, openFrame := none, draws := s.draws + 1 } ∧
      ((∀ r, begun ≠ .ready r) → rest = List.replicate n 0xFF) ∧
      ∀ r, begun = .ready r → ∀ i : Nat, i < n → i < clocked ∨ 8 + r.data.length ≤ i → rest[i]? = some (r.bytes.getD i 0xFF)

/-- A refused command is not carried out (R165): whatever command answers REFUSED, the state is that of the take but for the response,
which carries a reason, no data, the command's echo and the new sequence count. A payload above 64 bytes is refused with BAD_FRAME. -/
def Obligations.RefusalsChangeNothing : Prop :=
  ∀ (i : Instr) (q : Byte × Byte × List Byte) (s t : State), i.request = some q → s.listening = true →
    Machine.exec i s = .next t →
      (∀ r, t.buffer = .working r → r.result = .refused →
        t = { s.takeFrame (3 + q.2.2.length) with buffer := .working r } ∧ r.reason.isSome ∧ r.data = [] ∧ r.echo = q.1 ∧
          r.sequence = s.sequence + 1 ∧ r.overrun = false ∧ r.discard = s.buffer.isReady ∧ r.lineState = s.lineState) ∧
      (64 < q.2.2.length → t = s.refusedAs q.1 (3 + q.2.2.length) .badFrame (min (3 + q.2.2.length) 255))

/-- A request frame whose bytes spell a command is that command, for every command and every payload a frame can carry, the frame being
one event (the model's choice, log 22); and a report frame and a reading frame carry what they were made of (R160, R161, R184,
R187). -/
def Obligations.FramesCarryTheirCommands : Prop :=
  (∀ (i : Instr) (f : List Byte) (s : State), i.wellFormed = true → encodeRequest i = some f →
    decodeRequest f = some i ∧ Machine.exec (.requestFrame f) s = Machine.exec i s) ∧
  (∀ (i : Instr) (q : CarriageId × Byte × Byte) (f : List Byte), i.report = some q → encodeReport i = some f →
    decodeReport q.1 f = some i) ∧
  ∀ (st : StationNo) (v : Nat), v < 1024 → decodeReading (encodeReading st v) = some (st, v)

/-- A request frame that is malformed is refused with BAD_FRAME and the number of bytes clocked, 255 if more; one whose code names no
command with BAD_COMMAND and the code (R161, R165); one that opens with the fetch code is a fetch frame, and one without a whole byte
is ignored (R160; log 22). -/
def Obligations.UnknownFramesAreRefused : Prop :=
  ∀ (code : Byte) (rest : List Byte) (s : State),
    let n := 1 + rest.length
    let declared := (rest.getD 1 0).toNat
    (s.listening = true → code ≠ 0 → (n < 3 ∨ 64 < declared ∨ n ≠ 3 + declared) →
      Machine.exec (.requestFrame (code :: rest)) s = .next (s.refusedAs code n .badFrame (min n 255))) ∧
    (s.listening = true → code ≠ 0 → 3 ≤ n → declared ≤ 64 → n = 3 + declared → (∀ m p, commandOf code m p = none) →
      Machine.exec (.requestFrame (code :: rest)) s = .next (s.refusedAs code n .badCommand code.toNat)) ∧
    Machine.exec (.requestFrame (0 :: rest)) s = Machine.exec (.fetchFrame n) s ∧
    Machine.exec (.requestFrame []) s = .next { s with sent := [], openFrame := none }

/-- The completion makes a response READY (R162), and a frame then in progress was begun while WORKING (R160; log 33). A fetch frame
begun while READY shifts out the buffer state, the eight header bytes, the data and filler, and empties the buffer when all of it was
shifted out; one begun while EMPTY or WORKING shifts out filler and changes nothing, even where the completion came in between
(R163, R184). A frame without a whole byte is ignored (R160). That a COMPLETION with no response in assembly is no event is the model's
choice (log 23). -/
def Obligations.ResponsesAreFetchedWhole : Prop :=
  ∀ (n : Nat) (r : Response) (s : State),
    (r.bytes = [byte r.result.code, r.echo, byte ((r.reason.map Reason.code).getD 0), byte r.detail, byte (r.data.length / 256),
      byte r.data.length, byte ((if r.overrun then 128 else 0) + (if r.discard then 64 else 0) + r.lineState.code), r.sequence]
        ++ r.data) ∧
    (s.buffer = .working r → Machine.exec .completion s = .next { s with
      sent := [], buffer := .ready r, draws := s.draws + 1
      openFrame := if Config.selectAsserted s.draws = true then some (.begunWorking r) else none }) ∧
    ((∀ q, s.buffer ≠ .working q) → Machine.exec .completion s = .next { s with sent := [] }) ∧
    (∀ q, s.openFrame = some (.begunWorking q) →
      Machine.exec (.fetchFrame (n + 1)) s = .next { s with sent := [], shifted := 0x02 :: List.replicate n 0xFF, openFrame := none }) ∧
    (Machine.exec (.fetchFrame 0) s = .next { s with sent := [], openFrame := none }) ∧
    (s.openFrame = none →
      (s.buffer = .working r →
        Machine.exec (.fetchFrame (n + 1)) s = .next { s with sent := [], shifted := 0x02 :: List.replicate n 0xFF }) ∧
      (s.buffer = .empty →
        Machine.exec (.fetchFrame (n + 1)) s = .next { s with sent := [], shifted := 0x01 :: List.replicate n 0xFF }) ∧
      (s.buffer = .ready r → n < 8 + r.data.length →
        Machine.exec (.fetchFrame (n + 1)) s = .next { s with sent := [], shifted := 0x03 :: r.bytes.take n }) ∧
      (s.buffer = .ready r → 8 + r.data.length ≤ n →
        Machine.exec (.fetchFrame (n + 1)) s = .next { s with
          sent := [], shifted := 0x03 :: (r.bytes ++ List.replicate (n - (8 + r.data.length)) 0xFF), buffer := .empty }))

/-! ### Inputs -/

/-- A reading frame whose check passes (R13, R14, R187), its reserved bits at any value (R183): a value of 0 to 1022 becomes the
station's latest reading and held value, with age 0 and valid, and clears SENSOR_STALE (kind 6); the fault code 1023 becomes the latest
reading and makes the reading invalid, and sets SENSOR_STALE if it was valid and the class is not UNUSED. Nothing else changes but the
receiver, which waits for idle line before the next frame (R188). -/
def Obligations.ReadingsAreTaken : Prop :=
  ∀ (a hi lo : Byte) (st : StationNo) (s : State), a.toNat % 16 = st.val →
    let v := hi.toNat % 4 * 256 + lo.toNat
    let frame : List Byte := [0xC3, a, hi, lo, a ^^^ hi ^^^ lo]
    let x := s.stations[st]
    (v < 1023 → Machine.exec (.readingFrame frame) s = .next { s with
      sent := []
      receivers := { s.receivers with sensor := true }
      stations := s.stations.set st.val { x with latest := some v, heldValue := some v, age := 0, valid := true }
      marks := s.marks.set 6 (s.marks[6].filter fun n => n != st.val) }) ∧
    (v = 1023 → Machine.exec (.readingFrame frame) s = .next { s with
      sent := []
      receivers := { s.receivers with sensor := true }
      stations := s.stations.set st.val { x with latest := some 1023, valid := false }
      marks := if x.valid = true ∧ x.cls ≠ .unused then s.marks.set 6 (insertSubject st.val s.marks[6]) else s.marks })

/-- A frame that is not well formed changes nothing but its receiver, which waits for idle line (R15, R115, R188); a reading frame of
the wrong length, or with any one byte after the sync byte changed, is not well formed (R15, R187). -/
def Obligations.GarbledFramesAreDiscarded : Prop :=
  (∀ (frame : List Byte) (s : State), decodeReading frame = none →
    Machine.exec (.readingFrame frame) s = .next { s with sent := [], receivers := { s.receivers with sensor := true } }) ∧
  (∀ frame : List Byte, frame.length ≠ 5 → decodeReading frame = none) ∧
  (∀ (st : StationNo) (v : Nat) (i : Fin 4) (b : Byte), v < 1024 → (encodeReading st v)[i.val + 1]? ≠ some b →
    decodeReading ((encodeReading st v).set (i.val + 1) b) = none) ∧
  ∀ s : State,
    Machine.exec (.reportFrameDiscarded .one) s = .next { s with sent := [], receivers := { s.receivers with link1 := true } } ∧
    Machine.exec (.reportFrameDiscarded .two) s = .next { s with sent := [], receivers := { s.receivers with link2 := true } } ∧
    Machine.exec (.frameBrokenOff (.link .one)) s = .next { s with sent := [], receivers := { s.receivers with link1 := true } } ∧
    Machine.exec (.frameBrokenOff (.link .two)) s = .next { s with sent := [], receivers := { s.receivers with link2 := true } } ∧
    Machine.exec (.frameBrokenOff .sensor) s = .next { s with sent := [], receivers := { s.receivers with sensor := true } }

/-- The LINE STOP input (R87, R136, R140, R151, R152, R155). Becoming active: every latch off and every enable clear with modes kept;
each pump run ended short, its replenishment back in the pending count or, at a count of 3, dropped with REPLENISH_BACKLOG; LINE_STOPPED
set; each carriage with an outstanding order sent HALT and HALTED with that order kept; a line in RUN or PAUSED STOPPED; records, queue
and every other mark not touched. A staged value stays (R136) but for a channel in AUTO that is the pump channel of a station whose run
ends here (R87) or the valve of the station over which a carriage is halted in a LIFT or a LOWER (R140): that these are staged off is
the model's reading of the three rules together (log 16). Becoming inactive changes the level alone. That an input
already active has no further event is the model's (log 23). -/
def Obligations.LineStopHaltsTheLine : Prop :=
  ∀ s : State,
    let ends : ChannelNo → Prop := fun ch => ∃ (st : StationNo) (p : PumpNo), s.found.stations[st].runRemaining ≠ none ∧
      s.found.stations[st].pump = some p ∧ pumpChannel p = ch
    let hoists : ChannelNo → Prop := fun ch => ∃ c j, (s.found.carriage c).order ≠ none ∧ (s.found.carriage c).job = some j ∧
      (j.phase = .lifting ∧ valveOf j.source.station = ch ∨ j.phase = .lowering ∧ valveOf j.destination.station = ch)
    (s.stopActive = false → ∃ t, Machine.exec .lineStopActive s = .next t ∧
      t.settings = { s.found.settings with
        stopActive := true
        lineState := if s.lineState = .run ∨ s.lineState = .paused then .stopped else s.lineState } ∧
      t.hangers = s.found.hangers ∧ t.queue = s.found.queue ∧
      (∀ ch : ChannelNo, t.channels[ch].mode = s.found.channels[ch].mode ∧ t.channels[ch].enable = false ∧
        t.channels[ch].latch = false ∧
        (t.channels[ch].staged = true ↔ s.found.channels[ch].staged = true ∧
          ¬(s.found.channels[ch].mode = .auto ∧ (ends ch ∨ hoists ch)))) ∧
      (∀ c : CarriageId, t.carriage c = match (s.found.carriage c).order with
        | none => s.found.carriage c
        | some o => { s.found.carriage c with state := .halted, order := none, halted := some o.order }) ∧
      t.sent = s.found.sent ++ (if s.found.carriage1.order.isSome then [(.one, .halt)] else [])
        ++ (if s.found.carriage2.order.isSome then [(.two, .halt)] else []) ∧
      (∀ st : StationNo, t.stations[st] = if s.found.stations[st].runRemaining.isSome then { s.found.stations[st] with
          runRemaining := none
          pendingRuns := if s.found.stations[st].pendingRuns < 3 then s.found.stations[st].pendingRuns + 1
            else s.found.stations[st].pendingRuns } else s.found.stations[st]) ∧
      ∀ k n, t.hasMark k n = true ↔ s.found.hasMark k n = true ∨ (k = .lineStopped ∧ n = 0) ∨
        (k = .replenishBacklog ∧ ∃ st : StationNo, n = st.val ∧ s.found.stations[st].runRemaining ≠ none ∧
          3 ≤ s.found.stations[st].pendingRuns)) ∧
    (s.stopActive = true → Machine.exec .lineStopActive s = .next { s with sent := [] }) ∧
    Machine.exec .lineStopInactive s = .next { s with sent := [], stopActive := false }

/-! ### The beat -/

/-- A beat counts one and touches no other setting, no slot's occupancy and no record's identity, leg and step start (R1). That BEAT ends
the beat period at whatever value the prescaler has, and returns it to 0, is the model's choice (log 3, unsafe). With no command
waiting, a step is a cycle of the reference clock, and the cycle that would take the prescaler past 4095 is the beat (R1; log 2). -/
def Obligations.BeatsCount : Prop :=
  ∀ s : State,
    (∃ t, Machine.exec .beat s = .next t ∧
      t.settings = { s.settings with prescaler := 0, beat := s.beat + 1, due := t.due, draws := s.draws + 1 } ∧
      ∀ slot : Slot, (t.hangers[slot] = none ∧ s.hangers[slot] = none) ∨ ∃ h h', s.hangers[slot] = some h ∧
        t.hangers[slot] = some h' ∧ h'.tag = h.tag ∧ h'.bank = h.bank ∧ h'.push = h.push ∧ h'.area = h.area ∧ h'.leg = h.leg ∧
        h'.stepStart = h.stepStart) ∧
    (s.pending = [] → s.prescaler < 4095 → Machine.step s = .next { s.found with prescaler := s.prescaler + 1 }) ∧
    (s.pending = [] → 4095 ≤ s.prescaler → Machine.step s = Machine.exec .beat s)

/-- On each beat every reading ages (R16): its age grows by one up to 255, a valid reading whose age is now above the sensor timeout
becomes invalid, and SENSOR_STALE is set then, unless the class is UNUSED; the values themselves stay. -/
def Obligations.BeatsAgeReadings : Prop :=
  ∀ (s t : State) (st : StationNo), Machine.exec .beat s = .next t →
    t.stations[st].age = min 255 (s.stations[st].age + 1) ∧
    t.stations[st].valid = (s.stations[st].valid && decide (min 255 (s.stations[st].age + 1) ≤ s.params.sensorTimeout)) ∧
    t.stations[st].latest = s.stations[st].latest ∧ t.stations[st].heldValue = s.stations[st].heldValue ∧
    (t.hasMark .sensorStale st.val = true ↔ s.hasMark .sensorStale st.val = true ∨
      (s.stations[st].valid = true ∧ s.params.sensorTimeout < min 255 (s.stations[st].age + 1) ∧ s.stations[st].cls ≠ .unused))

/-- On each beat a developing record gets one increment of N = 2 × F × A (R67 to R70), with F and the provisional cause from the
station's aged reading (R63, R64): dose and fraction, the provisional flag, and the PROVISIONAL mark where the flag is newly set.
Stated where no lift can come before the increment (the line not in RUN, or the slot with no request in the queue) and no run's credit
falls on the beat; where it may, the order is free (log 5, log 6). There a carriage that waits in AWAIT_LIFT over a DUE record sends LIFT
on the beat whose increment brings the dose to the target or above it, which lifts the record with its overshoot, marks it where that
is above the allowance, and shuts the valve there (R73, R75, R76, R120, R140); below the target, or while the line is STOPPED, where the signal is withheld (R74, R154),
the carriage stays as it is and the record DUE in its bay. -/
def Obligations.BeatsDevelopTheFilm : Prop :=
  ∀ (s t : State) (slot : Slot) (h : Hanger) (r : BayRef), Machine.exec .beat s = .next t →
    s.found.hangers[slot] = some h → h.position = some r → h.state = .immersed ∨ h.state = .due →
    s.found.legKind h = some .exactDose →
    (s.lineState ≠ .run ∨ ∀ q ∈ s.found.queue, q.slot ≠ slot) →
    ((s.found.stations[r.station].runRemaining = none ∧ s.found.stations[r.station].pendingRuns = 0) ∨
      ∃ k, s.found.stations[r.station].runRemaining = some (k + 2)) →
    let x := s.found.stations[r.station].aged s.params.sensorTimeout
    let n := 2 * (stationRate s.rates x).1 * x.activity
    let provisional := (stationRate s.rates x).2 = true ∨ 0 < x.deficit
    (∃ h', t.hangers[slot] = some h' ∧
      h'.dose = min 16777215 (h.dose + (h.fraction + n) / 262144) ∧ h'.fraction = (h.fraction + n) % 262144 ∧
      (h'.provisional = true ↔ h.provisional = true ∨ provisional) ∧ h'.target = h.target ∧
      (provisional → h.provisional = false → t.hasMark .provisional slot.val = true)) ∧
    ∀ (c : CarriageId) (j : Job) (target : Nat), h.state = .due → h.target = some target →
      (s.found.carriage c).state = .awaitLift → (s.found.carriage c).job = some j → j.slot = slot →
      let dose := min 16777215 (h.dose + (h.fraction + n) / 262144)
      let g : Hanger := { h with
        dose := dose, fraction := (h.fraction + n) % 262144
        provisional := h.provisional || (stationRate s.rates x).2 || decide (0 < x.deficit) }
      (s.lineState ≠ .stopped → target ≤ dose → State.sendsLift c j g s.found t) ∧
      (s.lineState = .stopped ∨ dose < target → t.carriage c = s.found.carriage c ∧ t.hangers[slot] = some g ∧
        (t.hasMark .overshoot slot.val = true ↔ s.found.hasMark .overshoot slot.val = true))

/-- On a beat a record in its bay whose time has come leaves IMMERSED, and its request is lodged with its class, deadline and source: an
EXACT leg within the margin of its call point after the beat's increment (R71, R72), a TIMED or OPEN leg that is not held at its
minimum (R48). Outside RUN it is DUE and its request is in the queue; in RUN, where the lodging may be granted and lifted at once (R94,
R113), the request is in the queue or a carriage's job. One whose time has not come stays IMMERSED. On each beat a record IMMERSED or
DUE on a TIMED leg, not yet noted, that has hung longer than time + max overstay is noted and marked OVERSTAY (R49); this is stated
where no lift can come before the test (log 5). -/
def Obligations.BeatsTimeTheFilm : Prop :=
  (∀ (s t : State) (slot : Slot) (h : Hanger) (r : BayRef) (k : Machine.Step), Machine.exec .beat s = .next t →
     s.found.hangers[slot] = some h → h.position = some r → h.state = .immersed → s.found.legStep h = some k →
     (∀ c j, (s.found.carriage c).job = some j → j.slot ≠ slot) → (s.lineState = .run → ∀ q ∈ s.found.queue, q.slot ≠ slot) →
     let called : RequestClass → Beat → Prop := fun cls b => ∃ h', t.hangers[slot] = some h' ∧
       ((h'.state = .due ∧ ∃ q ∈ t.queue, q.slot = slot ∧ q.cls = cls ∧ q.deadline = b ∧ q.source = r) ∨
         (s.lineState = .run ∧ (h'.state = .due ∨ h'.state = .inTransit) ∧ ∃ c j, (t.carriage c).job = some j ∧ j.slot = slot ∧
           j.cls = cls ∧ j.deadline = b ∧ j.source = r))
     let stays := ∃ h', t.hangers[slot] = some h' ∧ h'.state = .immersed
     (k.kind ≠ .exactDose → h.held = false →
       if (k.time * 8 : Nat) ≤ beatDiff (s.beat + 1) h.stepStart then
         called k.kind.requestClass (beatPlus h.stepStart ((k.time + if k.kind = .timed then k.maxOverstay else 0) * 8))
       else stays) ∧
     ∀ target, k.kind = .exactDose → h.target = some target →
       ((s.found.stations[r.station].runRemaining = none ∧ s.found.stations[r.station].pendingRuns = 0) ∨
         ∃ k, s.found.stations[r.station].runRemaining = some (k + 2)) →
       let x := s.found.stations[r.station].aged s.params.sensorTimeout
       let n := 2 * (stationRate s.rates x).1 * x.activity
       let dose := min 16777215 (h.dose + (h.fraction + n) / 262144)
       if target ≤ dose + n * s.params.callLead / 262144 then
         called .exactDose (if target ≤ dose then s.beat + 1 else beatPlus (s.beat + 1) (((target - dose) * 262144 + n - 1) / n))
       else stays) ∧
  ∀ (s t : State) (slot : Slot) (h : Hanger) (k : Machine.Step), Machine.exec .beat s = .next t →
    s.found.hangers[slot] = some h → h.state = .immersed ∨ h.state = .due → h.overstayNoted = false →
    s.found.legStep h = some k → k.kind = .timed →
    (s.lineState ≠ .run ∨ h.state = .due ∧ ∀ q ∈ s.found.queue, q.slot ≠ slot) →
    ∃ h', t.hangers[slot] = some h' ∧
      if ((k.time + k.maxOverstay) * 8 : Nat) < beatDiff (s.beat + 1) h.stepStart then
        h'.overstayNoted = true ∧ t.hasMark .overstay slot.val = true
      else h'.overstayNoted = false

/-- Pump runs at a beat (R84, R85): a DEVELOP station with a pump and no run starts one where its pending count, its channel's mode and
enable and the LINE STOP input allow it, and that beat is the run's first; a run in progress counts one beat, with its pump on; else
nothing starts. A run that is complete at a beat credits its restore (R85, R86), first against the deficit and then to the activity, which
stays at most 1024; EXHAUSTED (kind 9) is cleared when the credit brings the deficit from above 0 to 0. The credit is made within the
beat, or is left to be made after it by RUN_COMPLETE: the model leaves open which (log 4, log 6). A run that is not complete credits
nothing. A completion that no beat left is no event (log 23). -/
def Obligations.PumpRunsCountAndCredit : Prop :=
  (∀ (s t : State) (st : StationNo) (p : PumpNo), Machine.exec .beat s = .next t →
     s.found.stations[st].cls = .develop → s.found.stations[st].pump = some p →
     let x := s.found.stations[st]
     let y := t.stations[st]
     let ch := s.found.channels[pumpChannel p]
     let free := ch.mode = .auto ∧ ch.enable = true ∧ s.stopActive = false
     (x.runRemaining = none → 0 < x.pendingRuns → free → y.pendingRuns = x.pendingRuns - 1 ∧
       y.runRemaining = (if x.runLength ≤ 1 then none else some (x.runLength - 1)) ∧ t.channels[pumpChannel p].latch = true) ∧
     (x.runRemaining = none → ¬(0 < x.pendingRuns ∧ free) → y.pendingRuns = x.pendingRuns ∧ y.runRemaining = none) ∧
     ∀ k, x.runRemaining = some k → y.pendingRuns = x.pendingRuns ∧
       y.runRemaining = (if k ≤ 1 then none else some (k - 1)) ∧ (free → t.channels[pumpChannel p].latch = true)) ∧
  (∀ (s t : State) (st : StationNo), Machine.exec .beat s = .next t →
     let x := s.found.stations[st]
     let y := t.stations[st]
     let complete := (∃ k, x.runRemaining = some k ∧ k ≤ 1) ∨ (x.runLength ≤ 1 ∧ s.found.startsRun st)
     let stands := y.activity = x.activity ∧ y.deficit = x.deficit ∧
       t.hasMark .exhausted st.val = s.found.hasMark .exhausted st.val
     let credited := y.activity = (if x.restore ≤ x.deficit then x.activity else min 1024 (x.activity + (x.restore - x.deficit))) ∧
       y.deficit = x.deficit - x.restore ∧ (t.hasMark .exhausted st.val = true ↔
         s.found.hasMark .exhausted st.val = true ∧ ¬(0 < x.deficit ∧ x.deficit ≤ x.restore))
     (complete → (.credit st ∈ t.due ∧ stands) ∨ (.credit st ∉ t.due ∧ credited)) ∧
     (¬complete → .credit st ∉ t.due ∧ stands)) ∧
  ∀ (s : State) (st : StationNo),
    let x := s.stations[st]
    (.credit st ∈ s.due → Machine.exec (.runComplete st) s = .next { s with
      sent := []
      due := s.due.erase (.credit st)
      stations := s.stations.set st.val { x with
        activity := if x.restore ≤ x.deficit then x.activity else min 1024 (x.activity + (x.restore - x.deficit))
        deficit := x.deficit - x.restore }
      marks := if 0 < x.deficit ∧ x.deficit ≤ x.restore then s.marks.set 9 (s.marks[9].filter fun n => n != st.val)
        else s.marks }) ∧
    (.credit st ∉ s.due → Machine.exec (.runComplete st) s = .next { s with sent := [] })

/-- The transfer of a beat (R136): modes and enables stay, MANUAL channels keep their staged value, OFF channels are staged off, a valve
in AUTO is staged by its station's pattern and interlock (R137, R138, R140), a pump channel in AUTO is staged on exactly while a station
that holds it has a run in progress, its first beat and its last included, and so is off while unassigned (R141), and each latch is on
exactly where enable, staged value and an inactive LINE STOP input allow it. -/
def Obligations.BeatsTransferTheOutputs : Prop :=
  ∀ (s t : State) (ch : ChannelNo), Machine.exec .beat s = .next t →
    let y := t.channels[ch]
    y.mode = s.found.channels[ch].mode ∧ y.enable = s.found.channels[ch].enable ∧
    (y.mode = .manual → y.staged = s.found.channels[ch].staged) ∧ (y.mode = .off → y.staged = false) ∧
    (y.latch = true ↔ y.enable = true ∧ y.staged = true ∧ t.stopActive = false) ∧
    (∀ p : PumpNo, ch = pumpChannel p → y.mode = .auto → (y.staged = true ↔ ∃ st : StationNo, s.found.stations[st].pump = some p ∧
      (s.found.stations[st].runRemaining ≠ none ∨ s.found.startsRun st))) ∧
    ∀ (st : StationNo) (e : Fin 7), ch = valveOf st → y.mode = .auto →
      let x := t.stations[st]
      let k := (t.beat - x.phaseOrigin - 1).toNat
      (x.pattern = 0 → y.staged = false) ∧
      (x.pattern.val = e.val + 1 → (y.staged = true ↔
        (∃ (b : BayNo) (slot : Slot), x.bays[b].state = .occupied slot) ∧
        (∀ c, (t.carriage c).interlocks st = false) ∧
        (k < t.patterns[e].initial ∨ (k - t.patterns[e].initial) % t.patterns[e].period < t.patterns[e].burst)))

/-! ### The steps a beat leaves, and the reports of the carriages -/

/-- An order expires at the first beat at which its timeout beat is reached (R117): the beat leaves the expiry to be taken (log 4), and
ORDER_EXPIRY puts the carriage into FAULT with code TIMEOUT. An expiry that no beat left is no event (log 23). -/
def Obligations.ExpiredOrdersFaultTheCarriage : Prop :=
  (∀ (s t : State) (c : CarriageId), Machine.exec .beat s = .next t →
    (FollowUp.expiry c ∈ t.due ↔ ∃ o, (s.found.carriage c).order = some o ∧ 0 ≤ beatDiff (s.beat + 1) o.timeout)) ∧
  (∀ (s : State) (c : CarriageId), .expiry c ∈ s.due → (s.carriage c).order.isSome → ∃ t,
    Machine.exec (.orderExpiry c) s = .next t ∧
      State.entersFault c 1 .carriageFault { s with sent := [], due := s.due.erase (.expiry c) } t) ∧
  ∀ (s : State) (c : CarriageId), .expiry c ∉ s.due → Machine.exec (.orderExpiry c) s = .next { s with sent := [] }

/-- A drain ends at its drain end, withheld while the line is STOPPED (R121, R154; log 4). DRAIN_END then lowers the hanger where the
carriage stands over its destination station, shutting that station's valve (R122, R140), and else sends it there with GOTO; the order
is outstanding with its timeout (R117). That a drain end which no beat left is no event is the model's choice (log 23). -/
def Obligations.DrainsEndInTravel : Prop :=
  (∀ (s t : State) (c : CarriageId), Machine.exec .beat s = .next t →
    (FollowUp.drain c ∈ t.due ↔ (s.found.carriage c).state = .draining ∧ s.lineState ≠ .stopped ∧
      ∃ j b, (s.found.carriage c).job = some j ∧ j.drainEnd = some b ∧ 0 ≤ beatDiff (s.beat + 1) b)) ∧
  (∀ (s : State) (c : CarriageId) (j : Job), .drain c ∈ s.due → (s.carriage c).state = .draining → s.lineState ≠ .stopped →
    (s.carriage c).job = some j →
    let u : State := { s with sent := [], due := s.due.erase (.drain c) }
    let d := j.destination
    ((s.carriage c).position = some (d.station.val : Int) → Machine.exec (.drainEnd c) s = .next
      (State.silenceAuto (valveOf d.station) { u.setCarriage c { s.carriage c with
          state := .lowering, job := some { j with phase := .lowering, drainEnd := none },
          order := some ⟨.lower d.bay, beatPlus s.beat s.params.liftTimeout⟩ } with sent := [(c, .lower d.bay)] })) ∧
    ((s.carriage c).position ≠ some (d.station.val : Int) → Machine.exec (.drainEnd c) s = .next
      { u.setCarriage c { s.carriage c with
          state := .toDest, job := some { j with phase := .toDest, drainEnd := none },
          order := some ⟨.goto d.station, beatPlus s.beat (s.params.travelBase +
            s.params.perStation * railDistance (s.carriage c).position d.station.val)⟩ } with sent := [(c, .goto d.station)] })) ∧
  ∀ (s : State) (c : CarriageId), .drain c ∉ s.due → Machine.exec (.drainEnd c) s = .next { s with sent := [] }

/-- ARRIVED at the source (R119, R120): position and span are the arrival's; an EXACT job whose dose is below target awaits it, and any
other job sends LIFT. The one that awaits leaves every record and mark as it is outside RUN; in RUN, where the arbitration at the arrival
may grant the other carriage a request over which it stands and lift that record at once (R113, R118), it leaves those of every slot
without a request in the queue, and of the job's own slot where the moves agree, as every step keeps them (StepsKeepTheRailInOrder).
LIFT makes the record IN_TRANSIT, measures the overshoot of an EXACT leg, marks it exactly where it is above (target × tolerance) div
1000, keeps the rest of its stay (R50, R75, R76), and shuts the valve of that station (R140). -/
def Obligations.ArrivedAtTheSource : Prop :=
  ∀ (s : State) (c : CarriageId) (j : Job) (b : Beat),
    let u := s.heard c
    (u.carriage c).state = .toSource → (u.carriage c).job = some j → (u.carriage c).order = some ⟨.goto j.source.station, b⟩ →
    ∃ t, Machine.exec (.arrived c (byte j.source.station.val)) s = .next t ∧ t.settings = u.settings ∧ t.stations = u.stations ∧
      (t.carriage c).position = some (j.source.station.val : Int) ∧
      (t.carriage c).span = some (hull2 j.source.station.val j.destination.station.val) ∧
      (j.cls = .exactDose ∧ (∃ h tg, u.hangers[j.slot] = some h ∧ h.target = some tg ∧ h.dose < tg) →
        (t.carriage c).state = .awaitLift ∧ (t.carriage c).order = none ∧
          (t.carriage c).job = some { j with phase := .awaitLift } ∧
          (u.lineState ≠ .run → t.hangers = u.hangers ∧ t.marks = u.marks) ∧
          ∀ i : Slot, (∀ q ∈ u.queue, q.slot ≠ i) ∨ (i = j.slot ∧ u.movesAgree) →
            t.hangers[i] = u.hangers[i] ∧ ∀ k ∈ hangerKinds, t.hasMark k i.val = u.hasMark k i.val) ∧
      ((j.cls ≠ .exactDose ∨ ∃ h tg, u.hangers[j.slot] = some h ∧ h.target = some tg ∧ tg ≤ h.dose) →
        (t.carriage c).state = .lifting ∧ (t.carriage c).job = some { j with phase := .lifting } ∧
          (t.carriage c).order = some ⟨.lift j.source.bay, beatPlus s.beat s.params.liftTimeout⟩ ∧
          (c, .lift j.source.bay) ∈ t.sent ∧ ∀ h, u.hangers[j.slot] = some h → State.sendsLift c j h u t)

/-- ARRIVED at the destination (R122): the destination is the position, the span is not changed, and LOWER is sent with its timeout (R117),
shutting that station's valve (R140). PARKED (R124): position and span are the park, the carriage is PARKED, and arbitration runs, which
outside RUN does nothing (R113). The argument byte of PARKED is not read (log 20). -/
def Obligations.ArrivalsAtDestinationAndPark : Prop :=
  (∀ (s : State) (c : CarriageId) (j : Job) (b : Beat),
     let u := s.heard c
     let d := j.destination
     (u.carriage c).state ≠ .toSource → (u.carriage c).job = some j → (u.carriage c).order = some ⟨.goto d.station, b⟩ →
     Machine.exec (.arrived c (byte d.station.val)) s = .next (State.silenceAuto (valveOf d.station)
       { u.setCarriage c { u.carriage c with
           state := .lowering, position := some (d.station.val : Int), job := some { j with phase := .lowering },
           order := some ⟨.lower d.bay, beatPlus s.beat s.params.liftTimeout⟩ } with sent := u.sent ++ [(c, .lower d.bay)] })) ∧
  ∀ (s : State) (c : CarriageId) (arg : Byte) (b : Beat),
    let u := s.heard c
    let v := u.setCarriage c { u.carriage c with
      state := .parked, position := some (parkOf c), span := some ⟨parkOf c, parkOf c⟩, order := none }
    (u.carriage c).order = some ⟨.park, b⟩ →
    Machine.exec (.parked c arg) s = .next v.arbitrate ∧ (s.lineState ≠ .run → v.arbitrate = v)

/-- LIFTED (R121): the source bay leaves use, DISABLED where its deferred-disable flag is set and else at once RESERVED by the first
pending request that fits it, and EMPTY only where none fits (R11, R93, R99); then the carriage drains for the drain of the leg being left, or with drain 0 goes on to its destination
(R122). -/
def Obligations.LiftedFreesTheBay : Prop :=
  ∀ (s : State) (c : CarriageId) (j : Job) (h : Hanger) (b : Beat),
    let u := s.heard c
    let drain := ((u.legStep h).map Machine.Step.drain).getD 0
    let old := u.bayAt j.source
    (u.carriage c).state = .lifting → (u.carriage c).job = some j → (u.carriage c).order = some ⟨.lift j.source.bay, b⟩ →
    u.hangers[j.slot] = some h →
    ∃ t, Machine.exec (.lifted c (byte j.source.bay.val)) s = .next t ∧ t.settings = u.settings ∧
      (∀ r, r ≠ j.source → t.bayAt r = u.bayAt r) ∧ (t.bayAt j.source).deferred = false ∧
      (old.deferred = true → (t.bayAt j.source).state = .disabled) ∧
      (old.deferred = false → State.offersBay j.source u t) ∧
      (0 < drain → t.carriage c = { u.carriage c with
        state := .draining, order := none, job := some { j with phase := .draining, drainEnd := some (beatPlus s.beat drain) } }) ∧
      (drain = 0 → (u.carriage c).position ≠ some (j.destination.station.val : Int) → t.carriage c = { u.carriage c with
        state := .toDest, job := some { j with phase := .toDest, drainEnd := none },
        order := some ⟨.goto j.destination.station, beatPlus s.beat (s.params.travelBase +
          s.params.perStation * railDistance (u.carriage c).position j.destination.station.val)⟩ }) ∧
      (drain = 0 → (u.carriage c).position = some (j.destination.station.val : Int) → t.carriage c = { u.carriage c with
        state := .lowering, job := some { j with phase := .lowering, drainEnd := none },
        order := some ⟨.lower j.destination.bay, beatPlus s.beat s.params.liftTimeout⟩ })

/-- LOWERED (R51, R60, R61, R82, R83, R123, R139), before the arbitration that follows it: the destination bay is OCCUPIED with its
deferred flag kept, the phase origin is the current beat where the station's tank was empty, the record begins its next leg, immersed
with a fresh dose and the target (time × 16 × (100 + push) + 50) div 100 on an EXACT leg or DONE on the unload leg, a developer bath is
charged, and the carriage is IDLE there. -/
def Obligations.LoweredBeginsTheLeg : Prop :=
  ∀ (s : State) (c : CarriageId) (j : Job) (h : Hanger) (d : BayRef) (b : Beat),
    let u := s.heard c
    let next := (u.stepsOf h)[h.leg]?
    let base := { h with leg := h.leg + 1, position := some d, destination := none, stepStart := s.beat, overstayNoted := false,
                         faultReason := none }
    let x := u.stations[d.station]
    let loss := (h.area * x.exhaust + 512) / 1024
    let sum := x.accumulator + h.area
    (u.carriage c).job = some j → (u.carriage c).order = some ⟨.lower j.destination.bay, b⟩ → u.hangers[j.slot] = some h →
    h.destination = some d →
    ∃ v : State, Machine.exec (.lowered c (byte j.destination.bay.val)) s = .next v.arbitrate ∧ v.settings = u.settings ∧
      v.queue = u.queue ∧ v.carriage (otherCarriage c) = u.carriage (otherCarriage c) ∧
      v.carriage c = { u.carriage c with
        state := .idle, position := some (j.destination.station.val : Int),
        span := some ⟨j.destination.station.val, j.destination.station.val⟩, job := none, order := none } ∧
      v.bayAt d = { u.bayAt d with state := .occupied j.slot } ∧
      (∀ i : Slot, i ≠ j.slot → v.hangers[i] = u.hangers[i]) ∧ v.channels = u.channels ∧ v.sent = u.sent ∧
      (∀ st : StationNo, st ≠ d.station → v.stations[st] = u.stations[st]) ∧ (∀ r, r ≠ d → v.bayAt r = u.bayAt r) ∧
      (next = none → v.hangers[j.slot] = some { base with state := .finished, target := none } ∧
        v.hasMark .hangerDone j.slot.val = true) ∧
      (∀ k, next = some k → k.kind = .exactDose → v.hangers[j.slot] = some { base with
        state := .immersed, target := some (((k.time : Int) * 16 * (100 + h.push) + 50) / 100).toNat, dose := 0, fraction := 0,
        overshoot := none, provisional := false }) ∧
      (∀ k, next = some k → k.kind ≠ .exactDose → v.hangers[j.slot] = some { base with state := .immersed, target := none }) ∧
      (v.stations[d.station]).phaseOrigin = (if x.anyOccupied then x.phaseOrigin else s.beat) ∧
      (x.cls ≠ .develop → (v.stations[d.station]).activity = x.activity ∧ (v.stations[d.station]).deficit = x.deficit) ∧
      (x.cls = .develop → 512 ≤ x.activity →
        (512 + loss ≤ x.activity → (v.stations[d.station]).activity = x.activity - loss ∧
          (v.stations[d.station]).deficit = x.deficit) ∧
        (x.activity < 512 + loss → (v.stations[d.station]).activity = 512 ∧
          (v.stations[d.station]).deficit = min 65535 (x.deficit + (loss - (x.activity - 512))) ∧
          v.hasMark .exhausted d.station.val = true) ∧
        (v.stations[d.station]).accumulator = sum % x.quantum ∧
        (v.stations[d.station]).pendingRuns = min 3 (x.pendingRuns + sum / x.quantum) ∧
        (3 < x.pendingRuns + sum / x.quantum → v.hasMark .replenishBacklog d.station.val = true))

/-- A FAULT report (R116, R125) puts the carriage into FAULT with the driver's code, or PROTOCOL for a code that is not the driver's to
give; so does, with PROTOCOL, a report that answers no outstanding order (R115, R116), which a HALTED carriage too discards. A carriage
that is UNPLACED, DISABLED or in FAULT discards both. That a HALTED carriage discards a LOWERED report follows R116 and R153 against a
sentence of R106 (log 35, unsafe). -/
def Obligations.ReportsOutOfPlaceStopTheCarriage : Prop :=
  (∀ (s : State) (c : CarriageId) (code : Byte),
     let u := s.heard c
     let x := (u.carriage c).state
     (x = .unplaced ∨ x = .disabled ∨ x = .fault → Machine.exec (.faultReport c code) s = .next u) ∧
     (x ≠ .unplaced → x ≠ .disabled → x ≠ .fault → ∃ t, Machine.exec (.faultReport c code) s = .next t ∧
       State.entersFault c (if 4 ≤ code.toNat ∧ code.toNat ≤ 15 then code.toNat else 2) .carriageFault u t)) ∧
  ∀ (s : State) (c : CarriageId) (arg : Byte) (i : Instr),
    let u := s.heard c
    let x := (u.carriage c).state
    let quiet := x = .unplaced ∨ x = .disabled ∨ x = .fault ∨ x = .halted
    let stray := (i = .arrived c arg ∧ ∀ st b, (u.carriage c).order = some ⟨.goto st, b⟩ → arg.toNat ≠ st.val) ∨
      (i = .parked c arg ∧ ∀ b, (u.carriage c).order ≠ some ⟨.park, b⟩) ∨
      (i = .lifted c arg ∧ ∀ n b, (u.carriage c).order = some ⟨.lift n, b⟩ → arg.toNat ≠ n.val) ∨
      (i = .lowered c arg ∧ ∀ n b, (u.carriage c).order = some ⟨.lower n, b⟩ → arg.toNat ≠ n.val)
    stray → (quiet → Machine.exec i s = .next u) ∧
      (¬quiet → ∃ t, Machine.exec i s = .next t ∧ State.entersFault c 2 .carriageFault u t)

/-! ### The order of urgency and the arbiter -/

/-- The order of the Move Queue (R93): EXACT stands ahead of TIMED, OPEN and LAUNCH, then the deadline with the
lesser signed difference from the current beat, then the lower slot; of two requests of different slots exactly one stands ahead, the
order is transitive at one beat, and the queue, when it is consulted, is the requests it holds, each once, in that order. -/
def Obligations.TheQueueHasOneOrder : Prop :=
  (∀ (now : Beat) (a b : Request), a.slot ≠ b.slot → (requestAhead now a b = true ↔ requestAhead now b a = false)) ∧
  (∀ (now : Beat) (a b c : Request), requestAhead now a b = true → requestAhead now b c = true → requestAhead now a c = true) ∧
  (∀ (now : Beat) (a b : Request), requestAhead now a b = true ↔
    a.cls.code < b.cls.code ∨ a.cls = b.cls ∧ (beatDiff a.deadline now < beatDiff b.deadline now ∨
      a.deadline = b.deadline ∧ a.slot < b.slot)) ∧
  ([RequestClass.exactDose, .timed, .openEnded, .launch].map RequestClass.code = [0, 1, 2, 3]) ∧
  ∀ s : State, s.queueOrder.Perm s.queue ∧
    ((s.queue.map Request.slot).Nodup → s.queueOrder.Pairwise fun a b => requestAhead s.beat a b = true)

/-- Lodging a request (R94 to R97). The bay chosen is an EMPTY bay of a candidate station, none of which is nearer to the source or as
near with a lower number and also has an EMPTY bay, and no lower bay of it is EMPTY; none is chosen only where no candidate has one. A
chosen bay becomes RESERVED by the slot and is the destination of record and request, and arbitration runs; with none the request is
pending, the record has BAY_PENDING, and UNLOAD_FULL is set where the hanger leaves its last step. The offer of a bay (R97, R99): one that
is not EMPTY, or that no pending request fits, stays; of the pending requests that fit it the first in the order of R93 takes it: the bay
is RESERVED by its slot and becomes the destination of record and request, its BAY_PENDING is cleared, UNLOAD_FULL is cleared where the
request was an unload-leg request and none is left pending, and arbitration runs. -/
def Obligations.LodgingTakesTheNearestBay : Prop :=
  (∀ (s : State) (h : Hanger) (src : StationNo),
    let free : StationNo → BayNo → Prop := fun st b => b.val < s.stations[st].bayCount ∧ s.stations[st].bays[b].state = .empty
    let far : StationNo → Nat := fun st => ((st.val : Int) - src.val).natAbs
    (∀ d, s.chooseBay h src = some d → s.leadsTo h d.station ∧ free d.station d.bay ∧
      (∀ b, b < d.bay → ¬free d.station b) ∧
      ∀ st b, s.leadsTo h st → free st b → far d.station < far st ∨ (far d.station = far st ∧ d.station ≤ st)) ∧
    (s.chooseBay h src = none → ∀ st b, s.leadsTo h st → ¬free st b)) ∧
  (∀ (s : State) (slot : Slot) (cls : RequestClass) (deadline : Beat) (h : Hanger) (r : BayRef),
    s.hangers[slot] = some h → h.position = some r → (∀ q ∈ s.queue, q.slot ≠ slot) →
    (∀ d, s.chooseBay h r.station = some d → ∃ v : State, s.lodge slot cls deadline = v.arbitrate ∧ v.settings = s.settings ∧
      v.bayAt d = { s.bayAt d with state := .reserved slot } ∧ (∀ e, e ≠ d → v.bayAt e = s.bayAt e) ∧
      v.hangers[slot] = some { h with destination := some d } ∧ (∀ i : Slot, i ≠ slot → v.hangers[i] = s.hangers[i]) ∧
      v.queue.Perm (⟨slot, cls, deadline, r, some d⟩ :: s.queue) ∧ (∀ c, v.carriage c = s.carriage c) ∧
      v.channels = s.channels ∧ v.marks = s.marks ∧ v.sent = s.sent) ∧
    (s.chooseBay h r.station = none →
      let u := s.lodge slot cls deadline
      { u with queue := s.queue, marks := s.marks } = s ∧ u.queue.Perm (⟨slot, cls, deadline, r, none⟩ :: s.queue) ∧
        ∀ k n, u.hasMark k n = true ↔ s.hasMark k n = true ∨ (k = .bayPending ∧ n = slot.val) ∨
          (k = .unloadFull ∧ n = 0 ∧ h.leg = (s.stepsOf h).length))) ∧
  ∀ (s : State) (d : BayRef),
    let unloading : State → Request → Prop := fun v q => q.destination = none ∧
      ∃ g, v.hangers[q.slot] = some g ∧ g.leg = (v.stepsOf g).length
    ((s.bayAt d).state ≠ .empty → s.offerBay d = s) ∧
    ((∀ q ∈ s.queue, ¬s.fitsBay d.station q) → s.offerBay d = s) ∧
    ∀ (r : Request) (h : Hanger), (s.bayAt d).state = .empty → s.takesBay d.station r → s.hangers[r.slot] = some h →
      ∃ v : State, s.offerBay d = v.arbitrate ∧ v.settings = s.settings ∧
        v.bayAt d = { s.bayAt d with state := .reserved r.slot } ∧ (∀ e, e ≠ d → v.bayAt e = s.bayAt e) ∧
        v.hangers[r.slot] = some { h with destination := some d } ∧ (∀ i : Slot, i ≠ r.slot → v.hangers[i] = s.hangers[i]) ∧
        v.queue = s.queue.map (fun q => if q.slot = r.slot then { q with destination := some d } else q) ∧
        (∀ c, v.carriage c = s.carriage c) ∧ v.channels = s.channels ∧ v.sent = s.sent ∧
        ∀ k n, v.hasMark k n = true ↔ s.hasMark k n = true ∧ ¬(k = .bayPending ∧ n = r.slot.val) ∧
          ¬(k = .unloadFull ∧ n = 0 ∧ unloading s r ∧ ∀ q ∈ v.queue, ¬unloading v q)

/-- Grants and yields of the Rail Arbiter (R112, R114, R118, R124): a request with a destination goes to a free carriage whose span to serve it keeps
clear of the other's, and of two to the nearer, carriage 1 on a tie; it leaves the queue and becomes that carriage's job, with the
tested span and GOTO where the carriage is not there already. One that no carriage could take is passed over. Where the carriage is
there already, that its arrival, taken at once, starts no arbitration of its own, so that the other carriage is untouched at this grant,
is the model's choice (log 13, unsafe). An arbitration in RUN considers the requests in the order of the queue. Then, for carriage 1 and
then for carriage 2 while it is free: where the first request with a destination is blocked for it and the other carriage is IDLE, the
other is sent PARK and yields, with a span from its position to its park and the timeout of R117; else nothing more is done. -/
def Obligations.GrantsGoToTheNearerCarriage : Prop :=
  (∀ (s : State) (r : Request) (d : BayRef), r.destination = some d →
    let src := r.source.station
    let could : CarriageId → Int → Prop := fun c p => (s.carriage c).position = some p ∧
      ((s.carriage c).state = .idle ∨ (s.carriage c).state = .parked) ∧
      match c with
      | .one => ∀ w, s.carriage2.span = some w → max p (max (src.val : Int) d.station.val) < w.lo
      | .two => ∀ w, s.carriage1.span = some w → w.hi < min p (min (src.val : Int) d.station.val)
    ((∀ c p, ¬could c p) → s.consider r = s) ∧
    ∀ c p, could c p →
      (∀ q, could (otherCarriage c) q → (p - src.val).natAbs < (q - src.val).natAbs ∨
        ((p - src.val).natAbs = (q - src.val).natAbs ∧ c = .one)) →
      let t := s.consider r
      t.queue = (s.queue.filter fun q => q.slot != r.slot) ∧ t.carriage (otherCarriage c) = s.carriage (otherCarriage c) ∧
      t.settings = s.settings ∧ t.stations = s.stations ∧
      (∃ j, (t.carriage c).job = some j ∧ j.slot = r.slot ∧ j.cls = r.cls ∧ j.source = r.source ∧ j.destination = d) ∧
      (t.carriage c).span = some ⟨min p (min (src.val : Int) d.station.val), max p (max (src.val : Int) d.station.val)⟩ ∧
      (p ≠ src.val → (t.carriage c).state = .toSource ∧ t.hangers = s.hangers ∧
        (t.carriage c).order = some ⟨.goto src, beatPlus s.beat (s.params.travelBase +
          s.params.perStation * (p - src.val).natAbs)⟩ ∧ t.sent = s.sent ++ [(c, .goto src)]) ∧
      (p = src.val → (t.carriage c).state = .awaitLift ∨ (t.carriage c).state = .lifting)) ∧
  ∀ s : State, s.lineState = .run →
    let u := s.queueOrder.foldl State.consider s
    let reaches : CarriageId → Request → BayRef → Prop := fun c r d => ∃ p, (u.carriage c).position = some p ∧
      match c with
      | .one => ∀ w, u.carriage2.span = some w → max p (max (r.source.station.val : Int) d.station.val) < w.lo
      | .two => ∀ w, u.carriage1.span = some w → w.hi < min p (min (r.source.station.val : Int) d.station.val)
    let blocked : CarriageId → Int → Prop := fun c p => ((u.carriage c).state = .idle ∨ (u.carriage c).state = .parked) ∧
      (u.carriage (otherCarriage c)).state = .idle ∧ (u.carriage (otherCarriage c)).position = some p ∧
      ∃ r d, u.queueOrder.find? (fun q => q.destination.isSome) = some r ∧ r.destination = some d ∧ ¬reaches c r d
    let yields : CarriageId → Int → State := fun c p => { u.setCarriage c { u.carriage c with
      state := .yielding, span := some ⟨min p (parkOf c), max p (parkOf c)⟩,
      order := some ⟨.park, beatPlus s.beat (s.params.travelBase + s.params.perStation * (p - parkOf c).natAbs)⟩ } with
      sent := u.sent ++ [(c, .park)] }
    (∀ p, blocked .one p → s.arbitrate = yields .two p) ∧
    (∀ p, (∀ q, ¬blocked .one q) → blocked .two p → s.arbitrate = yields .one p) ∧
    ((∀ c p, ¬blocked c p) → s.arbitrate = u)

/-! ### What no command can do -/

/-- The line state moves only as its rules say (R3, R4, R5, R148, R150, R151, R156, R17): a change of it names the command that made
it and the states it led between. -/
def Obligations.LineStateMovesByItsRules : Prop :=
  ∀ (i : Instr) (s t : State), Machine.exec i s = .next t → t.lineState ≠ s.lineState →
    (s.lineState = .config ∧ t.lineState = .run ∧ s.stopActive = false ∧ ∃ m, meantBy i = .startLine m []) ∨
    ((s.lineState = .run ∨ s.lineState = .paused) ∧ t.lineState = .config ∧ ∃ m, meantBy i = .stopLine m []) ∨
    (s.lineState = .run ∧ t.lineState = .paused ∧ ∃ m, meantBy i = .pauseLine m []) ∨
    ((s.lineState = .paused ∨ s.lineState = .stopped ∧ s.stopActive = false) ∧ t.lineState = .run ∧
      ∃ m, meantBy i = .resume m []) ∨
    ((s.lineState = .run ∨ s.lineState = .paused) ∧ t.lineState = .stopped ∧ i = .lineStopActive) ∨
    (t.lineState = .config ∧ (i = .reset ∨ ∃ m, meantBy i = .fullReset m []))

/-- Outside RUN the arbiter makes no grant and no yield (R113, R149): a command that finds and leaves the line outside RUN gives no
carriage a job that it did not have, with its slot, class and places, and sends no PARK; outside RUN an arbitration changes nothing. -/
def Obligations.NoGrantOutsideRun : Prop :=
  (∀ (i : Instr) (s t : State) (c : CarriageId), Machine.exec i s = .next t → s.lineState ≠ .run → t.lineState ≠ .run →
    (∀ j', (t.carriage c).job = some j' → ∃ j, (s.carriage c).job = some j ∧ j'.slot = j.slot ∧ j'.cls = j.cls ∧
      j'.source = j.source ∧ j'.destination = j.destination) ∧ (c, .park) ∉ t.sent) ∧
  ∀ s : State, s.lineState ≠ .run → s.arbitrate = s

/-- Whatever command changes the state, leg, held flag or position of a live record leaves its RECORD_CHANGED mark set (R37). Stated
where the last beat left nothing to be settled first (log 4). -/
def Obligations.ChangedRecordsAreMarked : Prop :=
  ∀ (i : Instr) (s t : State) (slot : Slot) (h h' : Hanger), Machine.exec i s = .next t → s.due = [] →
    s.hangers[slot] = some h → t.hangers[slot] = some h' →
    (h'.state ≠ h.state ∨ h'.leg ≠ h.leg ∨ h'.held ≠ h.held ∨ h'.position ≠ h.position) →
    t.hasMark .recordChanged slot.val = true

/-! ### Invariants of every step -/

/-- Every step keeps the outputs safe (R136, R143, R151): a latch is on only with its enable set and its staged value on, and no enable is
set while the LINE STOP input is active. While the line is STOPPED no order is outstanding, and every step keeps it so (R152, R154). -/
def Obligations.StepsKeepTheStopInForce : Prop :=
  (∀ s t : State, s.outputsSafe → Machine.step s = .next t → t.outputsSafe) ∧
  ∀ s t : State, s.stoppedQuiet → Machine.step s = .next t → t.stoppedQuiet

/-- Every step keeps the masks nested (R177 to R179): the mask and the saved masks rise strictly down the stack, none above 7, and no
level is above 7 (R176). Every step keeps the subjects of each kind's mark in rising order, each of them one the kind can have: 0 for
the line, a slot, a station, or carriage 1 or 2 (R175), so that the first is the lowest (R177). -/
def Obligations.StepsKeepTheMasksNested : Prop :=
  (∀ s t : State, s.masksNest → Machine.step s = .next t → t.masksNest) ∧
  ∀ s t : State, s.marksInOrder → Machine.step s = .next t → t.marksInOrder

/-- Every step keeps every count in its range (R1, R7, R13, R14, R16, R18, R19, R26, R34, R59, R61, R62, R69, R81 to R90, R92, R93, R109,
R138, R145, R171): the beat period, the station, hanger and carriage records, the banks and the load area, the queue with at most one
request of a slot and so at most 48, the rates, the patterns and the line parameters; and a bath's deficit is above 0 only at the floor
of its activity. -/
def Obligations.StepsKeepTheCountsInRange : Prop :=
  ∀ s t : State, s.countsInRange → Machine.step s = .next t → t.countsInRange

/-- Every step keeps the Hanger Table, the tag index and the use counts in agreement (R25, R35). -/
def Obligations.StepsKeepTheTableInAgreement : Prop :=
  ∀ s t : State, s.tableAgrees → Machine.step s = .next t → t.tableAgrees

/-- Whenever both carriages hold spans, every position in carriage 1's span is lower than every position in carriage 2's span (R111). Every
step keeps it so, with the facts on which it rests: about each carriage's span (R109, R110); that in RUN the arbiter is at rest, no request
with a destination being one that a carriage could be granted (R113, R114); and that the moves agree with the records (R50, R52, R93), which
every step keeps by itself where the table agrees. -/
def Obligations.StepsKeepTheRailInOrder : Prop :=
  (∀ s t : State, s.tableAgrees → s.movesAgree → Machine.step s = .next t → t.movesAgree) ∧
  ∀ s t : State, s.railSafe → Machine.step s = .next t → t.railSafe

/-- The invariants hold of the part after reset. -/
def Obligations.TheInvariantsHoldAtReset : Prop :=
  State.reset.outputsSafe ∧ State.reset.masksNest ∧ State.reset.marksInOrder ∧ State.reset.countsInRange ∧ State.reset.tableAgrees ∧
    State.reset.stoppedQuiet ∧ State.reset.movesAgree ∧ State.reset.arbiterAtRest ∧ State.reset.railOrder ∧ State.reset.railSafe

/-! ### Commands of the host

In each statement the buffer listens, so that the frame is taken (R161), and the payload fits a frame. -/

/-- The reads answer with the part's data as it stands at the take, and change nothing (R9, R31, R66, R107, R133, R146, R167, R169, R170,
R181): the state is the take's but for the response. The data are given byte by byte, as R183 to R186 lay them out, with the image of a
hanger record; what the manual does not state (the argument and timeout of an absent order, the bank and total of a closed load area) is
any byte (log 9); the bits of a byte that no layout gives are 0, and a yes is 1 (the model's choice, log 10, unsafe). Bit n of a set stands for slot n, and for station n (log 28); CARRIAGE_FAULT is bit 0 of a carriage's marks (log 36);
an absent job has its presence byte 0 (log 27). Each read refuses a payload of another form with BAD_FORM, detail 0. -/
def Obligations.ReadsAnswerAndChangeNothing : Prop :=
  (∀ (m : Byte) (p : List Byte) (st : StationNo) (c : CarriageId) (s : State), s.listening = true → p.length ≤ 64 →
    let t := s.takeFrame 3
    let u := s.takeFrame 4
    let bank := addressedBank m t
    let x := u.stations[st]
    let y := u.carriage c
    let yes : Bool → Nat → Nat := fun q n => if q then n else 0
    let place : Option BayRef → Byte := fun r => match r with
      | some d => byte (d.station.val * 16 + d.bay.val)
      | none => 0xFF
    let rail : Option Int → Byte := fun q => match q with
      | some q => byte (q + 1).toNat
      | none => 0xFF
    let pump : Option PumpNo → Byte := fun q => match q with
      | some q => byte (16 + q.val)
      | none => 0xFF
    let bay : BayNo → List Byte := fun b => if b.val < x.bayCount then
        [byte (x.bays[b].state.code + yes x.bays[b].deferred 128), match x.bays[b].state with
          | .reserved slot | .occupied slot => byte slot.val
          | .empty | .disabled => 0xFF]
      else [0xFF, 0xFF]
    let order : Order → List Byte := fun o => match o with
      | .goto i => [1, byte i.val]
      | .park => [2, 0]
      | .lift b => [3, byte b.val]
      | .lower b => [4, byte b.val]
      | .halt => [5, 0]
    let job : List Byte := match y.job with
      | some j => [1, byte j.slot.val, byte j.cls.code, place (some j.source), place (some j.destination), byte j.phase.code] ++
          be32 (match j.drainEnd with
            | some b => b.toNat
            | none => 0)
      | none => [0, 0xFF, 0xFF, 0xFF, 0xFF, 0xFF, 0xFF, 0xFF, 0xFF, 0xFF]
    let set : Kind → Nat := fun k => ((t.marked k).map fun n => 2 ^ n).sum
    let lineMarks := byte (yes (t.hasMark .lineStopped 0) 1 + yes (t.hasMark .unloadFull 0) 2)
    Machine.exec (.identify m []) s = .next (s.okay 0x01 0 [0x01, 0x57, 0x01, 0x9C, 1, 16, 48, 32, 12, 2, 20, 8] t) ∧
    (∃ a1 a2, Machine.exec (.readLine m []) s = .next (s.okay 0x02 t.lineState.code ([byte t.lineState.code] ++ be32 t.beat.toNat
      ++ [if t.stopActive then 1 else 0, byte t.bankPointer.val, byte t.params.callLead, byte t.params.tolerance,
          byte t.params.sensorTimeout, byte t.params.travelBase, byte t.params.perStation, byte t.params.liftTimeout,
          byte t.liveCount, byte t.queue.length] ++ (match t.loadArea with
            | some a => [1, byte a.bank.val, byte a.total, byte a.gathered.length]
            | none => [0, a1, a2, 0]) ++ [lineMarks]) t)) ∧
    Machine.exec (.readStation m [byte st.val]) s = .next (s.okay 0x11 0 ([byte st.val, byte x.cls.code, byte x.bayCount,
      byte x.pattern.val] ++ bay 0 ++ bay 1 ++ bay 2 ++ bay 3 ++ be16 (x.latest.getD 0xFFFF) ++ be16 (x.heldValue.getD 0xFFFF) ++
      [byte x.age, byte (yes x.valid 1 + yes (u.hasMark .sensorStale st.val) 2 +
        yes (u.hasMark .exhausted st.val) 4 + yes (u.hasMark .replenishBacklog st.val) 8)] ++
      be32 x.phaseOrigin.toNat ++ (if x.cls = .develop then be16 x.activity ++ be16 x.deficit ++ be16 x.exhaust ++
        be16 x.accumulator ++ be16 x.quantum ++ [pump x.pump, byte x.runLength] ++ be16 x.restore ++
        [byte x.pendingRuns, byte (x.runRemaining.getD 0)] else [])) u) ∧
    Machine.exec (.readSteps m []) s = .next (s.okay 0x1A 0 ([byte bank.val, byte t.banks[bank].steps.length,
      byte t.banks[bank].useCount] ++ t.banks[bank].steps.flatMap fun k => [byte k.cls.code, byte k.kind.code] ++ be16 k.time ++
        be16 k.maxOverstay ++ [match k.pinned with
          | some i => byte i.val
          | none => 0xFF, byte k.drain]) t) ∧
    Machine.exec (.readRateTable m []) s = .next (s.okay 0x1D 0 (t.rates.toList.flatMap be16) t) ∧
    Machine.exec (.readQueue m []) s = .next (s.okay 0x29 (t.queue.countP fun q => q.destination.isNone)
      (byte t.queue.length :: t.queueOrder.flatMap fun q => [byte q.slot.val, byte q.cls.code] ++ be32 q.deadline.toNat ++
        [place (some q.source), place q.destination]) t) ∧
    (∃ a : List Byte, a.length = 6 ∧ Machine.exec (.readCarriage m [byte (carriageNumber c)]) s = .next (s.okay 0x34 0
      ([byte (carriageNumber c), byte y.state.code, byte (yes y.enabled 1), rail y.position, rail (y.span.map Span.lo),
        rail (y.span.map Span.hi)] ++ job ++ (match y.order with
          | some o => order o.order ++ be32 o.timeout.toNat
          | none => 0 :: a.take 5) ++ (match y.halted with
          | some o => order o
          | none => 0 :: a.drop 5) ++ [byte (y.faultCode.getD 0),
          byte (yes (u.hasMark .carriageFault (carriageNumber c)) 1)]) u)) ∧
    (∃ owner : PumpNo → Byte, (∀ n, (∀ i : StationNo, t.stations[i].pump ≠ some n) → owner n = 0xFF) ∧
      (∀ n (i : StationNo), t.stations[i].pump = some n → (∀ j : StationNo, t.stations[j].pump = some n → i ≤ j) →
        owner n = byte i.val) ∧
      Machine.exec (.readOutputs m []) s = .next (s.okay 0x3C 0 ([if t.stopActive then 1 else 0] ++ (allChannels.map fun ch =>
          byte (t.channels[ch].mode.code + yes t.channels[ch].enable 16 + yes t.channels[ch].staged 32 +
            yes t.channels[ch].latch 64)) ++ [owner 0, owner 1, owner 2, owner 3] ++
        t.patterns.toList.flatMap fun e => [byte e.initial, byte e.burst, byte e.period]) t)) ∧
    (t.marksInOrder → ∀ k n, (set k).testBit n = t.hasMark k n) ∧
    Machine.exec (.readMarks m []) s = .next (s.okay 0x45 t.calling.length ([byte t.mask, byte t.maskStack.length] ++
      t.maskStack.reverse.map byte ++ List.replicate (7 - t.maskStack.length) 0xFF ++ t.levels.toList.map byte ++
      ([Kind.hangerFault, .overshoot, .overstay, .provisional, .bayPending, .hangerDone, .recordChanged].flatMap fun k =>
        [byte (set k / 2 ^ 40), byte (set k / 2 ^ 32), byte (set k / 2 ^ 24), byte (set k / 2 ^ 16), byte (set k / 2 ^ 8),
          byte (set k)]) ++
      ([Kind.sensorStale, .exhausted, .replenishBacklog].flatMap fun k => [byte (set k / 2 ^ 8), byte (set k)]) ++
      [byte (yes (t.hasMark .carriageFault 1) 1 + yes (t.hasMark .carriageFault 2) 2), lineMarks,
        byte (yes t.attention 1)]) t) ∧
    (p ≠ [] → ∀ code i, (code, i) ∈ [((0x01 : Byte), Instr.identify m p), (0x02, .readLine m p), (0x1A, .readSteps m p),
        (0x1D, .readRateTable m p), (0x29, .readQueue m p), (0x3C, .readOutputs m p), (0x45, .readMarks m p)] →
      Machine.exec i s = .next (s.refusedAs code (3 + p.length) .badForm 0)) ∧
    ((∀ i : StationNo, p ≠ [byte i.val]) → Machine.exec (.readStation m p) s =
      .next (s.refusedAs 0x11 (3 + p.length) .badForm 0)) ∧
    (p ≠ [1] → p ≠ [2] → Machine.exec (.readCarriage m p) s = .next (s.refusedAs 0x34 (3 + p.length) .badForm 0))) ∧
  ∀ (slot : Slot) (s : State),
    let place : Option BayRef → Byte := fun r => match r with
      | some d => byte (d.station.val * 16 + d.bay.val)
      | none => 0xFF
    let marks := ([(Kind.hangerFault, 1), (.overshoot, 2), (.overstay, 4), (.provisional, 8), (.bayPending, 16), (.hangerDone, 32),
      (.recordChanged, 64)].map fun (k, n) => if s.hasMark k slot.val then n else 0).sum
    (s.hangers[slot] = none → s.hangerImage slot =
      [0, 0, 0, 0, 0, 0, 0xFF, 0xFF, 0, 0, 0, 0, 0, 0, 0, 0, 0, 0, 0, 0, 0xFF, 0xFF, 0xFF, 0]) ∧
    ∀ h, s.hangers[slot] = some h →
      let reason := match h.faultReason with
        | none => 0
        | some .carriageFault => 1
        | some .stopDuringMove => 2
        | some .removed => 3
      let n := reason * 2 ^ 38 + h.fraction * 2 ^ 20 + h.target.getD 0
      let excess := h.overshoot.getD 0xFFFFFF
      s.hangerImage slot = [byte (h.state.code * 16 + h.tag / 256), byte h.tag,
        byte (h.bank.val + (if h.held then 32 else 0) + (if h.overstayNoted then 64 else 0) + if h.provisional then 128 else 0),
        byte (h.push + 50).toNat, byte (h.leg * 16 + h.area / 256), byte h.area, place h.position, place h.destination,
        byte (h.stepStart.toNat / 2 ^ 24), byte (h.stepStart.toNat / 2 ^ 16), byte (h.stepStart.toNat / 2 ^ 8),
        byte h.stepStart.toNat, byte (h.dose / 2 ^ 16), byte (h.dose / 2 ^ 8), byte h.dose, byte (n / 2 ^ 32), byte (n / 2 ^ 24),
        byte (n / 2 ^ 16), byte (n / 2 ^ 8), byte n, byte (excess / 2 ^ 16), byte (excess / 2 ^ 8), byte excess,
        byte marks]

/-- FIND by tag (R55) answers from the tag index, NONE where it does not hold the tag; FIND MATCHING (R56) lists in ascending order
exactly the slots whose live record matches every part of the filter; neither changes anything. Bits of a filter that name no state of
a live record, or no hanger kind, are passed over, and a set left empty asks for nothing (the model's choice, log 18, unsafe); a payload
that fails more than one form test is refused for its length, its station, its bank, in that order (log 34, unsafe). READ RECORDS (R166,
R168): the images of as many slots from the first as are wanted, up to slot 47 and to 42, as they stand before the read clears
RECORD_CHANGED of each live one; with QUIET no mark is cleared. Nothing else changes. -/
def Obligations.TheTableIsReadAsItStands : Prop :=
  (∀ (m a b states station bank m1 m0 : Byte) (p : List Byte) (s : State), s.listening = true → p.length ≤ 64 →
     let tag := a.toNat * 256 + b.toNat
     let t := s.takeFrame 5
     let u := s.takeFrame 8
     let set := m1.toNat * 256 + m0.toNat
     (1 ≤ tag → tag ≤ 4095 →
       (∀ slot, t.slotOfTag tag = some slot → Machine.exec (.find m [a, b]) s =
         .next (s.okay 0x26 slot.val [byte slot.val, byte (t.stateCode slot)] t)) ∧
       (t.slotOfTag tag = none → Machine.exec (.find m [a, b]) s =
         .next (t.answer 0x26 s.buffer.isReady .nothing none 0 []))) ∧
     (tag = 0 ∨ 4095 < tag → Machine.exec (.find m [a, b]) s = .next (s.refusedAs 0x26 5 .badForm 0)) ∧
     (p.length ≠ 2 → Machine.exec (.find m p) s = .next (s.refusedAs 0x26 (3 + p.length) .badForm 0)) ∧
     (15 < station.toNat → station ≠ 0xFF →
       Machine.exec (.findMatching m [states, station, bank, m1, m0]) s = .next (s.refusedAs 0x27 8 .badForm 2)) ∧
     (station.toNat ≤ 15 ∨ station = 0xFF → 31 < bank.toNat → bank ≠ 0xFF →
       Machine.exec (.findMatching m [states, station, bank, m1, m0]) s = .next (s.refusedAs 0x27 8 .badForm 3)) ∧
     (p.length ≠ 5 → Machine.exec (.findMatching m p) s = .next (s.refusedAs 0x27 (3 + p.length) .badForm 0)) ∧
     (station.toNat ≤ 15 ∨ station = 0xFF → bank.toNat ≤ 31 ∨ bank = 0xFF → ∃ slots : List Slot, slots.Pairwise (· < ·) ∧
       (∀ i : Slot, i ∈ slots ↔ ∃ h, u.hangers[i] = some h ∧
         ((∀ n, 1 ≤ n → n ≤ 6 → states.toNat.testBit n = false) ∨ states.toNat.testBit h.state.code = true) ∧
         (station = 0xFF ∨ ∃ r, h.position = some r ∧ r.station.val = station.toNat) ∧
         (bank = 0xFF ∨ h.bank.val = bank.toNat) ∧
         ((∀ k ∈ hangerKinds, set.testBit k.number.val = false) ∨
           ∃ k ∈ hangerKinds, set.testBit k.number.val = true ∧ u.hasMark k i.val = true)) ∧
       Machine.exec (.findMatching m [states, station, bank, m1, m0]) s =
         .next (s.okay 0x27 0 (byte slots.length :: slots.map fun i => byte i.val) u))) ∧
  ∀ (m : Byte) (first : Slot) (n : Byte) (p : List Byte) (s : State), s.listening = true → p.length ≤ 64 →
    let t := s.takeFrame 5
    let count := min n.toNat (min (48 - first.val) 42)
    let slots := (allSlots.drop first.val).take count
    let clears : Slot → Bool := fun i => !m.toNat.testBit 5 && decide (i ∈ slots) && (t.hangers[i]).isSome
    (1 ≤ n.toNat → n.toNat ≤ 48 → ∃ u, Machine.exec (.readRecords m [byte first.val, n]) s =
        .next (s.okay 0x28 count (slots.flatMap t.hangerImage) u) ∧ (slots.flatMap t.hangerImage).length = 24 * count ∧
      (∀ i : Slot, u.hasMark .recordChanged i.val = (t.hasMark .recordChanged i.val && !clears i)) ∧
      (∀ k, k ≠ .recordChanged → u.marked k = t.marked k) ∧ { u with marks := t.marks } = t) ∧
    (n.toNat = 0 ∨ 48 < n.toNat → Machine.exec (.readRecords m [byte first.val, n]) s = .next (s.refusedAs 0x28 5 .badForm 2)) ∧
    (∀ a : Byte, 48 ≤ a.toNat → Machine.exec (.readRecords m [a, n]) s = .next (s.refusedAs 0x28 5 .badForm 1)) ∧
    (p.length ≠ 2 → Machine.exec (.readRecords m p) s = .next (s.refusedAs 0x28 (3 + p.length) .badForm 0))

/-- START LINE (R4), STOP LINE (R5), PAUSE LINE (R148) and RESUME in PAUSED (R150): the tests in their order, and, when all pass, the
line state alone changes, with an arbitration at RESUME (R113). A payload is refused before any test. The state they find and change is
that of the take, in which what the last beat left is settled (the model's choice, log 4). -/
def Obligations.LineCommandsMoveTheLine : Prop :=
  ∀ (m : Byte) (p : List Byte) (s : State), s.listening = true → p.length ≤ 64 →
    let t := s.takeFrame 3
    let ready : Carriage → Prop := fun x => x.state = .disabled ∨ x.state = .idle ∨ x.state = .parked
    let holds : StationClass → Prop := fun k => ∃ st : StationNo, t.stations[st].cls = k
    let refused : Byte → Reason → Nat → Host.Outcome State Fault Refusal := fun code r n => .next (s.refusedAs code 3 r n)
    (p ≠ [] → Machine.exec (.startLine m p) s = .next (s.refusedAs 0x06 (3 + p.length) .badForm 0) ∧
      Machine.exec (.stopLine m p) s = .next (s.refusedAs 0x07 (3 + p.length) .badForm 0) ∧
      Machine.exec (.pauseLine m p) s = .next (s.refusedAs 0x08 (3 + p.length) .badForm 0) ∧
      Machine.exec (.resume m p) s = .next (s.refusedAs 0x09 (3 + p.length) .badForm 0)) ∧
    (t.lineState ≠ .config → Machine.exec (.startLine m []) s = refused 0x06 .wrongLineState t.lineState.code) ∧
    (t.lineState = .config → t.stopActive = true → Machine.exec (.startLine m []) s = refused 0x06 .stopInputActive 0) ∧
    (t.lineState = .config → t.stopActive = false →
      (¬holds .load → Machine.exec (.startLine m []) s = refused 0x06 .noLoadStation 0) ∧
      (holds .load → ¬holds .unload → Machine.exec (.startLine m []) s = refused 0x06 .noUnloadStation 0) ∧
      (holds .load → holds .unload →
        (¬ready t.carriage1 → Machine.exec (.startLine m []) s = refused 0x06 .carriageNotPlaced 1) ∧
        (ready t.carriage1 → ¬ready t.carriage2 → Machine.exec (.startLine m []) s = refused 0x06 .carriageNotPlaced 2) ∧
        (ready t.carriage1 → ready t.carriage2 →
          Machine.exec (.startLine m []) s = .next (s.okay 0x06 0 [] { t with lineState := .run })))) ∧
    (t.lineState = .config → Machine.exec (.stopLine m []) s = refused 0x07 .wrongLineState 0) ∧
    (t.lineState = .stopped → Machine.exec (.stopLine m []) s = refused 0x07 .lineStopped 0) ∧
    (t.lineState = .run ∨ t.lineState = .paused →
      (0 < t.liveCount → Machine.exec (.stopLine m []) s = refused 0x07 .tableNotEmpty t.liveCount) ∧
      (t.liveCount = 0 →
        (¬ready t.carriage1 → Machine.exec (.stopLine m []) s = refused 0x07 .carriageBusy 1) ∧
        (ready t.carriage1 → ¬ready t.carriage2 → Machine.exec (.stopLine m []) s = refused 0x07 .carriageBusy 2) ∧
        (ready t.carriage1 → ready t.carriage2 →
          Machine.exec (.stopLine m []) s = .next (s.okay 0x07 0 [] { t with lineState := .config })))) ∧
    (t.lineState = .run → Machine.exec (.pauseLine m []) s = .next (s.okay 0x08 0 [] { t with lineState := .paused })) ∧
    (t.lineState = .stopped → Machine.exec (.pauseLine m []) s = refused 0x08 .lineStopped 0) ∧
    (t.lineState = .config ∨ t.lineState = .paused →
      Machine.exec (.pauseLine m []) s = refused 0x08 .wrongLineState t.lineState.code) ∧
    (t.lineState = .paused → Machine.exec (.resume m []) s =
      .next (s.okay 0x09 0 [0, 0] (State.arbitrate { t with lineState := .run }))) ∧
    (t.lineState = .config ∨ t.lineState = .run →
      Machine.exec (.resume m []) s = refused 0x09 .wrongLineState t.lineState.code)

/-- RESUME in STOPPED (R156 to R158): refused while the input is active; otherwise the line is RUN, carriage 1 is settled and then
carriage 2, and arbitration runs. A halted GOTO or PARK is sent again with a fresh timeout and the carriage re-enters the state it was
halted in; a halted LIFT or LOWER puts it into FAULT with STOP_DURING_MOVE; a carriage that awaits a dose already reached lifts (R74 to
R76); one whose drain has ended goes on; any other is left. The answer gives the action of each and the number of faults. That a drain
has ended (R121) is told by the signed difference of the current beat from the drain end, with no latch: the model's choice (log 39,
unsafe). -/
def Obligations.ResumeSettlesTheStoppedLine : Prop :=
  ∀ (m : Byte) (s : State), s.listening = true → (s.takeFrame 3).lineState = .stopped →
    let t := s.takeFrame 3
    let u : State := { t with lineState := .run }
    let again : CarriageId → Order → Nat → State → State → Prop := fun c o distance v w =>
      w = { v.setCarriage c { v.carriage c with
        state := match (v.carriage c).job with | some j => j.phase | none => .yielding, halted := none,
        order := some ⟨o, beatPlus v.beat (v.params.travelBase + v.params.perStation * distance)⟩ } with sent := v.sent ++ [(c, o)] }
    let settles : CarriageId → ResumeAction → State → State → Prop := fun c a v w =>
      let x := v.carriage c
      (∀ st, x.state = .halted → x.halted = some (.goto st) →
        a = .reissued ∧ again c (.goto st) (railDistance x.position st.val) v w) ∧
      (x.state = .halted → x.halted = some .park → a = .reissued ∧ again c .park (railDistance x.position (parkOf c)) v w) ∧
      (∀ b, x.state = .halted → x.halted = some (.lift b) ∨ x.halted = some (.lower b) →
        a = .faulted ∧ ∃ v', w = v' ∧ State.entersFault c 3 .stopDuringMove v v') ∧
      (∀ j, x.state = .awaitLift → x.job = some j → v.doseReached j.slot = true → a = .lifted ∧ w = v.liftOrder c ∧
        ∀ h, v.hangers[j.slot] = some h → State.sendsLift c j h v w) ∧
      (∀ j, x.state = .awaitLift → x.job = some j → v.doseReached j.slot = false → a = .untouched ∧ w = v) ∧
      (∀ j b, x.state = .draining → x.job = some j → j.drainEnd = some b → 0 ≤ beatDiff v.beat b → a = .drained ∧ w = v.goOn c) ∧
      (∀ j b, x.state = .draining → x.job = some j → j.drainEnd = some b → beatDiff v.beat b < 0 → a = .untouched ∧ w = v) ∧
      (x.state ≠ .halted → x.state ≠ .awaitLift → x.state ≠ .draining → a = .untouched ∧ w = v)
    (t.stopActive = true → Machine.exec (.resume m []) s = .next (s.refusedAs 0x09 3 .stopInputActive 0)) ∧
    (t.stopActive = false → ∃ (v w : State) (a b : ResumeAction) (n : Nat), settles .one a u v ∧ settles .two b v w ∧
      n = (if a = .faulted then 1 else 0) + (if b = .faulted then 1 else 0) ∧
      Machine.exec (.resume m []) s = .next (s.okay 0x09 n [byte a.code, byte b.code] w.arbitrate))

/-- SET STATION (R7, R8): in CONFIG, with the form and the total of bays right, the station takes its class, bay count and pattern, its
bays become EMPTY, a bath is fresh on entering DEVELOP and given up on leaving it with its two marks, and becoming UNUSED clears
SENSOR_STALE; the readings and the phase origin stay, and so do every other station and, until the next transfer, every channel
(log 15). -/
def Obligations.StationsAreGivenTheirClass : Prop :=
  ∀ (m a b c d : Byte) (st : StationNo) (cls : StationClass) (pattern : PatternNo) (p : List Byte) (s : State),
    s.listening = true → p.length ≤ 64 →
    let t := s.takeFrame 7
    let x := t.stations[st]
    let total := (allStations.map fun i =>
      if i = st then (if cls = .unused then 0 else c.toNat)
      else if t.stations[i].cls = .unused then 0 else t.stations[i].bayCount).sum
    let base := { x with cls := cls, bayCount := c.toNat, pattern := pattern, bays := Vector.replicate 4 ⟨.empty, false⟩ }
    let good := a.toNat = st.val ∧ classOf b = some cls ∧ 1 ≤ c.toNat ∧ c.toNat ≤ 4 ∧ d.toNat = pattern.val
    ((s.takeFrame (3 + p.length)).lineState ≠ .config → Machine.exec (.setStation m p) s =
      .next (s.refusedAs 0x10 (3 + p.length) .wrongLineState (s.takeFrame (3 + p.length)).lineState.code)) ∧
    ((s.takeFrame (3 + p.length)).lineState = .config → p.length ≠ 4 → Machine.exec (.setStation m p) s =
      .next (s.refusedAs 0x10 (3 + p.length) .badForm 4)) ∧
    (t.lineState = .config →
      (16 ≤ a.toNat → Machine.exec (.setStation m [a, b, c, d]) s = .next (s.refusedAs 0x10 7 .badForm 0)) ∧
      (a.toNat < 16 → classOf b = none → Machine.exec (.setStation m [a, b, c, d]) s = .next (s.refusedAs 0x10 7 .badForm 1)) ∧
      (a.toNat < 16 → classOf b ≠ none → c.toNat = 0 ∨ 4 < c.toNat →
        Machine.exec (.setStation m [a, b, c, d]) s = .next (s.refusedAs 0x10 7 .badForm 2)) ∧
      (a.toNat < 16 → classOf b ≠ none → 1 ≤ c.toNat → c.toNat ≤ 4 → 8 ≤ d.toNat →
        Machine.exec (.setStation m [a, b, c, d]) s = .next (s.refusedAs 0x10 7 .badForm 3)) ∧
      (good → 48 < total → Machine.exec (.setStation m [a, b, c, d]) s = .next (s.refusedAs 0x10 7 .tooManyBays total)) ∧
      (good → total ≤ 48 → ∃ u, Machine.exec (.setStation m [a, b, c, d]) s = .next (s.okay 0x10 0 [] u) ∧
        u.settings = t.settings ∧ u.hangers = t.hangers ∧ u.queue = t.queue ∧ (∀ k, u.carriage k = t.carriage k) ∧ u.sent = t.sent ∧
        (∀ i, i ≠ st → u.stations[i] = t.stations[i]) ∧
        u.stations[st] = (if cls = .develop ∧ x.cls ≠ .develop then
            { base with activity := 1024, deficit := 0, accumulator := 0, pendingRuns := 0, runRemaining := none }
          else if x.cls = .develop ∧ cls ≠ .develop then { base with pendingRuns := 0, pump := none, runRemaining := none }
          else base) ∧
        (∀ k n, u.hasMark k n = (t.hasMark k n && !(decide (n = st.val) &&
          (decide (x.cls = .develop ∧ cls ≠ .develop ∧ (k = .exhausted ∨ k = .replenishBacklog)) ||
            decide (cls = .unused ∧ k = .sensorStale))))) ∧
        u.channels = t.channels))

/-- SET BAY SERVICE (R12): out of service, an EMPTY bay becomes DISABLED and a bay in use has its deferred-disable flag set; in service, a
DISABLED bay becomes EMPTY and is offered to the first pending request that fits it (R11, R99), and a bay in use loses the flag; any other bay is unchanged. The detail is the
bay's state after it. The refusals' details are 0 (log 17). -/
def Obligations.BayServiceIsSet : Prop :=
  ∀ (m a b c : Byte) (d : BayRef) (p : List Byte) (s : State), s.listening = true → p.length ≤ 64 →
    let t := s.takeFrame 6
    let x := t.bayAt d
    let there := d.bay.val < t.stations[d.station].bayCount ∧ t.stations[d.station].cls ≠ .unused
    let out : List Byte := [byte d.station.val, byte d.bay.val, 0]
    let back : List Byte := [byte d.station.val, byte d.bay.val, 1]
    (there →
      (x.state = .empty → Machine.exec (.setBayService m out) s =
        .next (s.okay 0x12 3 [] (t.setBay d ⟨.disabled, x.deferred⟩))) ∧
      (x.state = .disabled → Machine.exec (.setBayService m out) s = .next (s.okay 0x12 3 [] (t.setBay d x))) ∧
      (∀ slot, x.state = .reserved slot → Machine.exec (.setBayService m out) s =
        .next (s.okay 0x12 1 [] (t.setBay d ⟨.reserved slot, true⟩))) ∧
      (∀ slot, x.state = .occupied slot → Machine.exec (.setBayService m out) s =
        .next (s.okay 0x12 2 [] (t.setBay d ⟨.occupied slot, true⟩))) ∧
      (x.state = .empty → Machine.exec (.setBayService m back) s = .next (s.okay 0x12 0 [] t)) ∧
      (x.state = .disabled →
        let u := (t.setBay d ⟨.empty, x.deferred⟩).offerBay d
        Machine.exec (.setBayService m back) s = .next (s.okay 0x12 (u.bayAt d).state.code [] u) ∧
          State.offersBay d t u) ∧
      (∀ slot, x.state = .reserved slot → Machine.exec (.setBayService m back) s =
        .next (s.okay 0x12 1 [] (t.setBay d ⟨.reserved slot, false⟩))) ∧
      (∀ slot, x.state = .occupied slot → Machine.exec (.setBayService m back) s =
        .next (s.okay 0x12 2 [] (t.setBay d ⟨.occupied slot, false⟩)))) ∧
    (c.toNat ≤ 1 → a.toNat < 16 → (∀ st : StationNo, a.toNat = st.val → t.stations[st].bayCount ≤ b.toNat ∨ 4 ≤ b.toNat ∨
      t.stations[st].cls = .unused) → Machine.exec (.setBayService m [a, b, c]) s = .next (s.refusedAs 0x12 6 .noSuchBay 0)) ∧
    (16 ≤ a.toNat ∨ 1 < c.toNat → Machine.exec (.setBayService m [a, b, c]) s = .next (s.refusedAs 0x12 6 .badForm 0)) ∧
    (p.length ≠ 3 → Machine.exec (.setBayService m p) s = .next (s.refusedAs 0x12 (3 + p.length) .badForm 0))

/-- SET ACTIVITY (R88): the activity, clamped to 512..1024, is stored, the deficit becomes 0 and EXHAUSTED (kind 9) is cleared; the rest of
the bath is kept. SET BATH PARAMETERS (R89, R90): the five values are written, and the activity, deficit, accumulator and every other
station stay; no channel is given to a second station. Where the pump channel changes, a run in progress first ends short: its
replenishment goes back to the pending count or, at a count of 3, is dropped with REPLENISH_BACKLOG, and the old channel, if in AUTO, is
staged off with its latch (R87, R136, R141); every other channel and mark stays, and all of them where no run ends.
Each refuses in the order of its rule. -/
def Obligations.BathsAreSet : Prop :=
  (∀ (m a b c : Byte) (st : StationNo) (p : List Byte) (s : State), s.listening = true → p.length ≤ 64 →
     let t := s.takeFrame 6
     let x := t.stations[st]
     let value := b.toNat * 256 + c.toNat
     let stored := if value < 512 then 512 else if 1024 < value then 1024 else value
     (x.cls = .develop → Machine.exec (.setActivity m [byte st.val, b, c]) s =
       .next (s.okay 0x13 (if stored = value then 0 else 1) [byte (stored / 256), byte stored]
         { t with stations := t.stations.set st.val { x with activity := stored, deficit := 0 }
                  marks := t.marks.set 9 (t.marks[9].filter fun n => n != st.val) })) ∧
     (x.cls ≠ .develop → Machine.exec (.setActivity m [byte st.val, b, c]) s = .next (s.refusedAs 0x13 6 .wrongClass x.cls.code)) ∧
     (16 ≤ a.toNat → Machine.exec (.setActivity m [a, b, c]) s = .next (s.refusedAs 0x13 6 .badForm 1)) ∧
     (p.length ≠ 3 → Machine.exec (.setActivity m p) s = .next (s.refusedAs 0x13 (3 + p.length) .badForm 0))) ∧
  ∀ (m e1 e0 q1 q0 pc rl r1 r0 : Byte) (st : StationNo) (pump : Option PumpNo) (p : List Byte) (s : State),
    s.listening = true → p.length ≤ 64 →
    let t := s.takeFrame 12
    let x := t.stations[st]
    let e := e1.toNat * 256 + e0.toNat
    let q := q1.toNat * 256 + q0.toNat
    let r := r1.toNat * 256 + r0.toNat
    let frame : List Byte := [byte st.val, e1, e0, q1, q0, pc, rl, r1, r0]
    let formed := e ≤ 4095 ∧ 1 ≤ q ∧ q ≤ 4095 ∧ pumpByte pump = pc ∧ rl ≠ 0 ∧ r ≤ 512
    let held : StationNo → Prop := fun i => i ≠ st ∧ pump ≠ none ∧ t.stations[i].pump = pump
    let ends := x.pump ≠ pump ∧ x.runRemaining ≠ none
    (p.length ≠ 9 → Machine.exec (.setBathParameters m p) s = .next (s.refusedAs 0x14 (3 + p.length) .badForm 0)) ∧
    (4095 < e → Machine.exec (.setBathParameters m frame) s = .next (s.refusedAs 0x14 12 .badForm 2)) ∧
    (e ≤ 4095 → q = 0 ∨ 4095 < q → Machine.exec (.setBathParameters m frame) s = .next (s.refusedAs 0x14 12 .badForm 3)) ∧
    (∀ a : Byte, 16 ≤ a.toNat → Machine.exec (.setBathParameters m [a, e1, e0, q1, q0, pc, rl, r1, r0]) s =
      .next (s.refusedAs 0x14 12 .badForm 1)) ∧
    (e ≤ 4095 → 1 ≤ q → q ≤ 4095 →
      (pc ≠ 0xFF → pc.toNat < 16 ∨ 19 < pc.toNat → Machine.exec (.setBathParameters m frame) s =
        .next (s.refusedAs 0x14 12 .badForm 4)) ∧
      (pumpByte pump = pc → rl = 0 → Machine.exec (.setBathParameters m frame) s = .next (s.refusedAs 0x14 12 .badForm 5)) ∧
      (pumpByte pump = pc → rl ≠ 0 → 512 < r → Machine.exec (.setBathParameters m frame) s =
        .next (s.refusedAs 0x14 12 .badForm 6))) ∧
    (formed → x.cls ≠ .develop → Machine.exec (.setBathParameters m frame) s =
      .next (s.refusedAs 0x14 12 .wrongClass x.cls.code)) ∧
    (formed → x.cls = .develop → ∀ o, held o → (∀ i, held i → o ≤ i) → Machine.exec (.setBathParameters m frame) s =
      .next (s.refusedAs 0x14 12 .channelInUse o.val)) ∧
    (formed → x.cls = .develop → (∀ i, ¬held i) → ∃ u, Machine.exec (.setBathParameters m frame) s =
        .next (s.okay 0x14 0 [e1, e0, q1, q0, pc, rl, r1, r0] u) ∧
      u.settings = t.settings ∧ u.hangers = t.hangers ∧ u.queue = t.queue ∧ (∀ c, u.carriage c = t.carriage c) ∧ u.sent = t.sent ∧
      (∀ i, i ≠ st → u.stations[i] = t.stations[i]) ∧
      (∀ ch : ChannelNo, u.channels[ch] =
        if ends ∧ x.pump.map pumpChannel = some ch ∧ t.channels[ch].mode = .auto then { t.channels[ch] with staged := false, latch := false }
        else t.channels[ch]) ∧
      (∀ k n, u.hasMark k n = true ↔ t.hasMark k n = true ∨ (k = .replenishBacklog ∧ n = st.val ∧ ends ∧ 3 ≤ x.pendingRuns)) ∧
      u.stations[st] = { x with
        exhaust := e, quantum := q, pump := pump, runLength := rl.toNat, restore := r
        runRemaining := if x.pump = pump then x.runRemaining else none
        pendingRuns := if ends ∧ x.pendingRuns < 3 then x.pendingRuns + 1 else x.pendingRuns })

/-- SET LINE PARAMETERS (R171): the six parameters take their values at the take, a sensor timeout below 8 stored as 8 with detail 1,
and nothing else changes; a payload of another length, or a lift timeout of 0, is refused. The banks (R23, R24, R32): SELECT BANK sets
the link bank pointer alone; CLEAR BANK empties the addressed bank, which the modifiers byte and the pointer choose, and is refused while
records use it. SET RATE TABLE (R65): each of the seventeen entries is stored, clamped to 64..1023, and the detail counts the clamped
ones. -/
def Obligations.ParametersBanksAndRatesAreSet : Prop :=
  (∀ (m a b c d e f : Byte) (p : List Byte) (s : State), s.listening = true → p.length ≤ 64 →
    (f ≠ 0 → Machine.exec (.setLineParameters m [a, b, c, d, e, f]) s =
      .next (s.okay 0x03 (if c.toNat < 8 then 1 else 0) [a, b, if c.toNat < 8 then 8 else c, d, e, f]
        { s.takeFrame 9 with params := ⟨a.toNat, b.toNat, if c.toNat < 8 then 8 else c.toNat, d.toNat, e.toNat, f.toNat⟩ })) ∧
    (f = 0 → Machine.exec (.setLineParameters m [a, b, c, d, e, f]) s = .next (s.refusedAs 0x03 9 .badForm 6)) ∧
    (p.length ≠ 6 → Machine.exec (.setLineParameters m p) s = .next (s.refusedAs 0x03 (3 + p.length) .badForm 0))) ∧
  (∀ (m a : Byte) (b : BankNo) (p : List Byte) (s : State), s.listening = true → p.length ≤ 64 →
     let t := s.takeFrame 3
     let bank := addressedBank m t
     (bank.val = if m.toNat.testBit 7 then 0 else if m.toNat.testBit 6 then m.toNat % 32 else t.bankPointer.val) ∧
     Machine.exec (.selectBank m [byte b.val]) s = .next (s.okay 0x18 b.val [] { s.takeFrame 4 with bankPointer := b }) ∧
     (32 ≤ a.toNat → Machine.exec (.selectBank m [a]) s = .next (s.refusedAs 0x18 4 .badForm 0)) ∧
     (p.length ≠ 1 → Machine.exec (.selectBank m p) s = .next (s.refusedAs 0x18 (3 + p.length) .badForm 0)) ∧
     (t.banks[bank].useCount = 0 → Machine.exec (.clearBank m []) s = .next (s.okay 0x1B bank.val []
       { t with banks := t.banks.set bank.val { t.banks[bank] with steps := [] } })) ∧
     (0 < t.banks[bank].useCount → Machine.exec (.clearBank m []) s =
       .next (s.refusedAs 0x1B 3 .bankInUse t.banks[bank].useCount)) ∧
     (p ≠ [] → Machine.exec (.clearBank m p) s = .next (s.refusedAs 0x1B (3 + p.length) .badForm 0))) ∧
  ∀ (m : Byte) (entries : Vector Nat 17) (p : List Byte) (s : State), s.listening = true → p.length ≤ 64 →
    (∀ i : Fin 17, entries[i] < 65536) →
    let stored := entries.map fun r => if r < 64 then 64 else if 1023 < r then 1023 else r
    Machine.exec (.setRateTable m (entries.toList.flatMap be16)) s =
      .next (s.okay 0x1C (entries.toList.countP fun r => decide (r < 64 ∨ 1023 < r)) (stored.toList.flatMap be16)
        { s.takeFrame 37 with rates := stored }) ∧
    (p.length ≠ 34 → Machine.exec (.setRateTable m p) s = .next (s.refusedAs 0x1C (3 + p.length) .badForm 0))

/-- LOAD STEPS (R26 to R29): for steps that a bank can hold (R19, R20) as READ STEPS sends them (R185), a frame that begins a load opens
the load area for the addressed bank, one that continues it appends, and the frame that completes the total writes the bank whole and
closes the area; until then the bank keeps its steps. A bank in use and a frame out of sequence are refused. The same of step images as
bytes: the form is tested first, then the bank, the sequence and each image in turn; the first malformed image refuses the frame with its
step number; and the max overstay of an EXACT or OPEN step is stored as 0, whatever the image carries. -/
def Obligations.RecipesAreLoadedWhole : Prop :=
  (∀ (m : Byte) (n f : Nat) (steps : List Machine.Step) (s : State), s.listening = true →
    (∀ k ∈ steps, k.storable) → 1 ≤ steps.length → steps.length ≤ 7 → f + steps.length ≤ n → n ≤ 12 →
    let p : List Byte := byte n :: byte f :: steps.flatMap Step.image
    let t := s.takeFrame (3 + p.length)
    let bank := addressedBank m t
    (0 < t.banks[bank].useCount → Machine.exec (.loadSteps m p) s =
      .next (s.refusedAs 0x19 (3 + p.length) .bankInUse t.banks[bank].useCount)) ∧
    (t.banks[bank].useCount = 0 → 0 < f → (∀ g, t.loadArea = some ⟨bank, n, g⟩ → g.length ≠ f) →
      Machine.exec (.loadSteps m p) s = .next (s.refusedAs 0x19 (3 + p.length) .loadSequence
        ((t.loadArea.map fun a => a.gathered.length).getD 0))) ∧
    (t.banks[bank].useCount = 0 → ∀ g, (f = 0 ∧ g = [] ∨ 0 < f ∧ g.length = f ∧ t.loadArea = some ⟨bank, n, g⟩) →
      (f + steps.length = n → Machine.exec (.loadSteps m p) s = .next (s.okay 0x19 0 [byte bank.val, byte n, byte n, 1]
        { t with banks := t.banks.set bank.val { t.banks[bank] with steps := g ++ steps }, loadArea := none })) ∧
      (f + steps.length < n → Machine.exec (.loadSteps m p) s = .next (s.okay 0x19 0
        [byte bank.val, byte n, byte (f + steps.length), 0] { t with loadArea := some ⟨bank, n, g ++ steps⟩ })))) ∧
  (∀ (m : Byte) (p : List Byte) (s : State), s.listening = true → p.length ≤ 64 → p.length < 10 ∨ (p.length - 2) % 8 ≠ 0 →
    Machine.exec (.loadSteps m p) s = .next (s.refusedAs 0x19 (3 + p.length) .badForm 0)) ∧
  ∀ (m n f : Byte) (images : List (List Byte)) (s : State), s.listening = true → (∀ x ∈ images, x.length = 8) →
    1 ≤ images.length → images.length ≤ 7 →
    let p : List Byte := n :: f :: images.flatten
    let t := s.takeFrame (3 + p.length)
    let bank := addressedBank m t
    let refuses : Reason → Nat → Prop := fun r d => Machine.exec (.loadSteps m p) s = .next (s.refusedAs 0x19 (3 + p.length) r d)
    let malformed : List Byte → Prop := fun x => ∀ c k t1 t0 o1 o0 i d : Byte, x = [c, k, t1, t0, o1, o0, i, d] →
      let time := t1.toNat * 256 + t0.toNat
      c.toNat < 2 ∨ 7 < c.toNat ∨ 2 < k.toNat ∨ (k = 0 ∧ c ≠ 3) ∨ (c = 3 ∧ k ≠ 0) ∨ time = 0 ∨ 16383 < time ∨
        (k = 1 ∧ 16383 < o1.toNat * 256 + o0.toNat) ∨ (15 < i.toNat ∧ i ≠ 0xFF)
    let stored : List Byte → Machine.Step → Prop := fun x y => ∀ c k t1 t0 o1 o0 i d : Byte, x = [c, k, t1, t0, o1, o0, i, d] →
      y.cls.code = c.toNat ∧ y.kind.code = k.toNat ∧ y.time = t1.toNat * 256 + t0.toNat ∧
        y.maxOverstay = (if k = 1 then o1.toNat * 256 + o0.toNat else 0) ∧
        y.pinned.map Fin.val = (if i = 0xFF then none else some i.toNat) ∧ y.drain = d.toNat
    (n.toNat = 0 ∨ 12 < n.toNat → refuses .badForm 1) ∧
    (1 ≤ n.toNat → n.toNat ≤ 12 → 11 < f.toNat → refuses .badForm 2) ∧
    (1 ≤ n.toNat → n.toNat ≤ 12 → f.toNat ≤ 11 → n.toNat < f.toNat + images.length → refuses .badForm 3) ∧
    (1 ≤ n.toNat → n.toNat ≤ 12 → f.toNat ≤ 11 → f.toNat + images.length ≤ n.toNat →
      (0 < t.banks[bank].useCount → refuses .bankInUse t.banks[bank].useCount) ∧
      (t.banks[bank].useCount = 0 → f ≠ 0 → (∀ g, t.loadArea = some ⟨bank, n.toNat, g⟩ → g.length ≠ f.toNat) →
        refuses .loadSequence ((t.loadArea.map fun a => a.gathered.length).getD 0)) ∧
      (t.banks[bank].useCount = 0 →
        ∀ g, (f = 0 ∧ g = [] ∨ f ≠ 0 ∧ g.length = f.toNat ∧ t.loadArea = some ⟨bank, n.toNat, g⟩) →
        (∀ i x, images[i]? = some x → malformed x → (∀ j y, j < i → images[j]? = some y → ¬malformed y) →
          refuses .badStep (f.toNat + i + 1)) ∧
        ((∀ x ∈ images, ¬malformed x) → ∃ steps, List.Forall₂ stored images steps ∧
          Machine.exec (.loadSteps m p) s = .next (if f.toNat + images.length = n.toNat then
              s.okay 0x19 0 [byte bank.val, n, n, 1]
                { t with banks := t.banks.set bank.val { t.banks[bank] with steps := g ++ steps }, loadArea := none }
            else s.okay 0x19 0 [byte bank.val, n, byte (f.toNat + images.length), 0]
              { t with loadArea := some ⟨bank, n.toNat, g ++ steps⟩ }))))

/-- ADMIT (R25, R35, R39 to R41): its tests in their order, and, when all pass, a record in the lowest vacant slot, its load bay OCCUPIED,
its tag in the index, its bank counted and its LAUNCH request lodged with the current beat and that bay (R41, R94). Outside RUN, where no
arbitration acts, the record stays ADMITTED in its bay with its request in the queue, and no other record changes; in RUN, where the
lodging may be granted and, with a carriage there, lifted at once (R113, R119), the request is in the queue or a carriage's job; this is
stated where the queue holds one request of a slot at most, as every step keeps it (R93;
StepsKeepTheCountsInRange). -/
def Obligations.AdmissionCreatesTheRecord : Prop :=
  ∀ (m t1 t0 p1 p0 a1 a0 : Byte) (slot : Slot) (d : BayRef) (p : List Byte) (s : State), s.listening = true → p.length ≤ 64 →
    let t := s.takeFrame 9
    let tag := t1.toNat * 256 + t0.toNat
    let push := (BitVec.ofNat 16 (p1.toNat * 256 + p0.toNat)).toInt
    let area := a1.toNat * 256 + a0.toNat
    let bank := addressedBank m t
    let steps := t.banks[bank].steps
    let frame : List Byte := [t1, t0, p1, p0, a1, a0]
    let running := t.lineState = .run ∨ t.lineState = .paused
    let served : Machine.Step → Prop := fun k => match k.pinned with
      | some st => t.stations[st].cls = k.cls
      | none => ∃ st : StationNo, t.stations[st].cls = k.cls
    let unloads := ∃ st : StationNo, t.stations[st].cls = .unload
    let loadBay : BayRef → Prop := fun r => t.stations[r.station].cls = .load ∧ r.bay.val < t.stations[r.station].bayCount ∧
      (t.bayAt r).state = .empty
    let lowest := t.hangers[slot] = none ∧ ∀ i, i < slot → t.hangers[i] ≠ none
    let refuses : Reason → Nat → Prop := fun r n => Machine.exec (.admitHanger m frame) s = .next (s.refusedAs 0x20 9 r n)
    (p.length ≠ 6 → Machine.exec (.admitHanger m p) s = .next (s.refusedAs 0x20 (3 + p.length) .badForm 0)) ∧
    (tag = 0 ∨ 4095 < tag → refuses .badForm 1) ∧
    (1 ≤ tag → tag ≤ 4095 →
      (t.lineState = .config → refuses .wrongLineState 0) ∧ (t.lineState = .stopped → refuses .lineStopped 0) ∧
      (running → (∀ i : Slot, t.hangers[i] ≠ none) → refuses .noSlot 0) ∧
      (running → lowest →
        (∀ other, t.slotOfTag tag = some other → refuses .duplicateTag other.val) ∧
        (t.slotOfTag tag = none →
          (steps = [] → refuses .emptyBank bank.val) ∧
          (∀ n k, steps[n]? = some k → ¬served k → (∀ i x, i < n → steps[i]? = some x → served x) → refuses .noStation (n + 1)) ∧
          (steps ≠ [] → (∀ k ∈ steps, served k) →
            (¬unloads → refuses .noStation (steps.length + 1)) ∧
            (unloads → (∀ r, ¬loadBay r) → refuses .noLoadBay 0) ∧
            (unloads → loadBay d → (∀ r, loadBay r → d.station < r.station ∨ d.station = r.station ∧ d.bay ≤ r.bay) →
              ∃ u, Machine.exec (.admitHanger m frame) s =
                  .next (s.okay 0x20 slot.val ([byte slot.val, byte (d.station.val * 16 + d.bay.val)] ++ be32 t.beat.toNat) u) ∧
                u.settings = { t.settings with
                  banks := t.banks.set bank.val { t.banks[bank] with useCount := t.banks[bank].useCount + 1 }
                  tagIndex := enterTag tag slot t.tagIndex } ∧
                u.bayAt d = { t.bayAt d with state := .occupied slot } ∧ u.hasMark .recordChanged slot.val = true ∧
                (∃ h, u.hangers[slot] = some h ∧ h.tag = tag ∧ h.bank = bank ∧ h.push = max (-50) (min 200 push) ∧
                  h.area = min 4095 area ∧ h.leg = 0 ∧ h.held = false ∧ h.stepStart = t.beat ∧ h.overstayNoted = false ∧ h.dose = 0 ∧
                  h.fraction = 0 ∧ h.target = none ∧ h.overshoot = none ∧ h.provisional = false ∧ h.faultReason = none ∧
                  (t.lineState = .paused ∨ t.queueInRange → (h.state = .admitted ∧ h.position = some d ∧
                      ∃ q ∈ u.queue, q.slot = slot ∧ q.cls = .launch ∧ q.deadline = t.beat ∧ q.source = d) ∨
                    (t.lineState = .run ∧ (h.state = .admitted ∧ h.position = some d ∨ h.state = .inTransit ∧ h.position = none) ∧
                      ∃ c j, (u.carriage c).job = some j ∧ j.slot = slot ∧ j.cls = .launch ∧ j.deadline = t.beat ∧ j.source = d))) ∧
                (t.lineState = .paused → u.channels = t.channels ∧ (∀ c, u.carriage c = t.carriage c) ∧
                  ∀ i : Slot, i ≠ slot → u.hangers[i] = t.hangers[i]))))))

/-- RETIRE (R25, R35, R38, R42, R43): taken for a record that is DONE, ADMITTED with its launch no job, or FAULTED with reason REMOVED, it
empties the slot with its request, its marks, its tag and its count in its bank, and each bay it held leaves use: DISABLED where its
deferred-disable flag is set, else at once RESERVED by the first of the others' pending requests that fits it, and EMPTY only where none fits (R11, R93, R99). Else it
is refused. -/
def Obligations.RetirementEmptiesTheSlot : Prop :=
  ∀ (m : Byte) (slot : Slot) (h : Hanger) (rest : List Byte) (s : State), s.listening = true → rest.length ≤ 63 →
    let t := s.takeFrame 4
    let u := s.takeFrame (4 + rest.length)
    let job := ∃ c j, (t.carriage c).job = some j ∧ j.slot = slot
    let may := h.state = .finished ∨ (h.state = .admitted ∧ ¬job) ∨ (h.state = .faulted ∧ h.faultReason = some .removed)
    let refuses : Reason → Nat → Prop := fun r n => Machine.exec (.retire m [byte slot.val]) s = .next (s.refusedAs 0x21 4 r n)
    (Machine.exec (.retire m []) s = .next (s.refusedAs 0x21 3 .badForm 0)) ∧
    (∀ a : Byte, 48 ≤ a.toNat → Machine.exec (.retire m (a :: rest)) s = .next (s.refusedAs 0x21 (4 + rest.length) .badForm 0)) ∧
    (t.hangers[slot] = none → refuses .noRecord slot.val) ∧
    (u.hangers[slot] = some h → rest ≠ [] → Machine.exec (.retire m (byte slot.val :: rest)) s =
      .next (s.refusedAs 0x21 (4 + rest.length) .badForm 1)) ∧
    (t.hangers[slot] = some h → ¬may → refuses .wrongState h.state.code) ∧
    (t.hangers[slot] = some h → may → ∃ v, Machine.exec (.retire m [byte slot.val]) s =
        .next (s.okay 0x21 slot.val [byte (h.tag / 256), byte h.tag] v) ∧
      v.settings = { t.settings with
        banks := t.banks.set h.bank.val { t.banks[h.bank] with useCount := t.banks[h.bank].useCount - 1 }
        tagIndex := t.tagIndex.filter fun e => e.2 != slot } ∧
      v.hangers[slot] = none ∧ (∀ q ∈ v.queue, q.slot ≠ slot) ∧ (∀ k ∈ hangerKinds, v.hasMark k slot.val = false) ∧
      (∀ r, h.position ≠ some r → h.destination ≠ some r → v.bayAt r = t.bayAt r) ∧
      (t.lineState ≠ .run → v.channels = t.channels ∧ ∀ c, v.carriage c = t.carriage c) ∧
      ∀ d, (h.position = some d ∧ h.destination ≠ some d) ∨ (h.destination = some d ∧ h.position ≠ some d) →
        (v.bayAt d).deferred = false ∧ ((t.bayAt d).deferred = true → (v.bayAt d).state = .disabled) ∧
        ((t.bayAt d).deferred = false → State.offersBay d t v ∧ (v.bayAt d).state ≠ .reserved slot))

/-- HOLD (R38, R44, R102): taken for a record that is ADMITTED, or IMMERSED or DUE on an OPEN leg, and whose request is no job, it sets
the flag, takes the request away with its BAY_PENDING mark, makes a DUE record IMMERSED and gives up its reservation, whose bay is
offered to the first pending request that fits it (R11, R99), and the record keeps its clock. On a held record it changes nothing. Else it is refused, and a payload of another form is refused first. -/
def Obligations.HoldKeepsTheHanger : Prop :=
  (∀ m, slotFormsRefused 0x22 0 (Instr.hold m)) ∧
  ∀ (m : Byte) (slot : Slot) (h : Hanger) (s : State), s.listening = true → (s.takeFrame 4).hangers[slot] = some h →
    let t := s.takeFrame 4
    let job := ∃ c j, (t.carriage c).job = some j ∧ j.slot = slot
    let stays := h.state = .immersed ∨ h.state = .due
    let may := h.state = .admitted ∨ (stays ∧ t.legKind h = some .openEnded)
    let refuses : Reason → Nat → Prop := fun r n => Machine.exec (.hold m [byte slot.val]) s = .next (s.refusedAs 0x22 4 r n)
    (job → refuses .wrongState h.state.code) ∧
    (¬job → h.state = .inTransit ∨ h.state = .finished ∨ h.state = .faulted → refuses .wrongState h.state.code) ∧
    (¬job → stays → t.legKind h ≠ some .openEnded → refuses .wrongStepKind h.leg) ∧
    (¬job → may → h.held = true → Machine.exec (.hold m [byte slot.val]) s = .next (s.okay 0x22 1 [] t)) ∧
    (¬job → may → h.held = false → ∃ u, Machine.exec (.hold m [byte slot.val]) s = .next (s.okay 0x22 0 [] u) ∧
      u.settings = t.settings ∧
      u.hangers[slot] = some { h with
        held := true, destination := none, state := if h.state = .due then .immersed else h.state } ∧
      u.hasMark .recordChanged slot.val = true ∧ (∀ q ∈ u.queue, q.slot ≠ slot) ∧
      ((∃ q ∈ t.queue, q.slot = slot) → u.hasMark .bayPending slot.val = false) ∧
      (∀ r, h.destination ≠ some r → u.bayAt r = t.bayAt r) ∧
      (t.lineState ≠ .run → u.channels = t.channels ∧ ∀ c, u.carriage c = t.carriage c) ∧
      ∀ d, h.destination = some d → (u.bayAt d).deferred = false ∧
        ((t.bayAt d).deferred = true → (u.bayAt d).state = .disabled) ∧
        ((t.bayAt d).deferred = false → State.offersBay d t u ∧ (u.bayAt d).state ≠ .reserved slot))

/-- RELEASE (R38, R45): a record that is not held is not changed. A held one is held no longer: ADMITTED, its LAUNCH request is lodged for
the current beat; IMMERSED on an OPEN leg at its minimum, it is DUE with an OPEN request for the beat of that minimum; else it stays as
it is. The requests are shown where the line is not in RUN, so that no grant takes them at once. A payload of another form is
refused. -/
def Obligations.ReleaseLetsTheHangerGo : Prop :=
  (∀ m, slotFormsRefused 0x23 0 (Instr.release m)) ∧
  ∀ (m : Byte) (slot : Slot) (h : Hanger) (s : State), s.listening = true → (s.takeFrame 4).hangers[slot] = some h →
    let t := s.takeFrame 4
    let ripe : Machine.Step → Prop := fun k => h.state = .immersed ∧ t.legStep h = some k ∧ k.kind = .openEnded ∧
      (k.time * 8 : Nat) ≤ beatDiff t.beat h.stepStart
    let lodged : State → RequestClass → Beat → Prop := fun u cls b => t.lineState ≠ .run → ∀ r, h.position = some r →
      ∃ q ∈ u.queue, q.slot = slot ∧ q.cls = cls ∧ q.deadline = b ∧ q.source = r
    let alone : State → Prop := fun u => t.lineState ≠ .run → u.channels = t.channels ∧ (∀ c, u.carriage c = t.carriage c) ∧
      ∀ i : Slot, i ≠ slot → u.hangers[i] = t.hangers[i]
    (h.held = false → Machine.exec (.release m [byte slot.val]) s = .next (s.okay 0x23 1 [] t)) ∧
    (h.held = true → h.state = .admitted → ∃ u h', Machine.exec (.release m [byte slot.val]) s = .next (s.okay 0x23 0 [] u) ∧
      u.settings = t.settings ∧ u.hangers[slot] = some h' ∧ h'.held = false ∧ h'.leg = h.leg ∧ h'.stepStart = h.stepStart ∧
      (t.lineState ≠ .run → h'.state = .admitted) ∧ u.hasMark .recordChanged slot.val = true ∧ alone u ∧
      lodged u .launch t.beat) ∧
    (∀ k, h.held = true → ripe k → ∃ u h', Machine.exec (.release m [byte slot.val]) s = .next (s.okay 0x23 2 [] u) ∧
      u.settings = t.settings ∧ u.hangers[slot] = some h' ∧ h'.held = false ∧ h'.leg = h.leg ∧ h'.stepStart = h.stepStart ∧
      (t.lineState ≠ .run → h'.state = .due) ∧ u.hasMark .recordChanged slot.val = true ∧ alone u ∧
      lodged u .openEnded (beatPlus h.stepStart (k.time * 8))) ∧
    (h.held = true → h.state ≠ .admitted → (∀ k, ¬ripe k) → Machine.exec (.release m [byte slot.val]) s =
      .next (s.okay 0x23 0 [] ({ t with hangers := t.hangers.set slot.val (some { h with held := false }) }.mark .recordChanged
        slot.val)))

/-- AMEND (R38, R46, R47): the push and the area that the change byte selects are written, clamped, into a record that is neither DONE nor
FAULTED, and nothing else changes; but a push amended while the record develops gives it a new target, and an IMMERSED record at or
above that is DUE with an EXACT request for the current beat, and a carriage that waits over a DUE one there lifts it, with its overshoot
and mark (R74 to R76), unless the line is STOPPED. That the bits of the change byte beyond the two are not read, and that the
length and then the change byte are tested before the record's state, is the model's choice (log 31, log 38, unsafe). A payload of
another form is refused. -/
def Obligations.AmendWritesPushAndArea : Prop :=
  (∀ m, slotFormsRefused 0x24 5 (Instr.amend m)) ∧
  ∀ (m change p1 p0 a1 a0 : Byte) (slot : Slot) (h : Hanger) (s : State), s.listening = true →
    (s.takeFrame 9).hangers[slot] = some h →
    let t := s.takeFrame 9
    let g := { h with
      push := if change.toNat.testBit 0 then max (-50) (min 200 (BitVec.ofNat 16 (p1.toNat * 256 + p0.toNat)).toInt) else h.push
      area := if change.toNat.testBit 1 then min 4095 (a1.toNat * 256 + a0.toNat) else h.area }
    let frame : List Byte := [byte slot.val, change, p1, p0, a1, a0]
    let develops := (h.state = .immersed ∨ h.state = .due) ∧ t.legKind h = some .exactDose
    let dataOf : Option Nat → List Byte := fun target => beSigned16 g.push ++ be16 g.area ++ be24 (target.getD 0)
    (change.toNat % 4 = 0 → Machine.exec (.amend m frame) s = .next (s.refusedAs 0x24 9 .badForm 2)) ∧
    (change.toNat % 4 ≠ 0 → h.state = .finished ∨ h.state = .faulted →
      Machine.exec (.amend m frame) s = .next (s.refusedAs 0x24 9 .wrongState h.state.code)) ∧
    (change.toNat % 4 ≠ 0 → h.state ≠ .finished → h.state ≠ .faulted → ¬(change.toNat.testBit 0 = true ∧ develops) →
      Machine.exec (.amend m frame) s =
        .next (s.okay 0x24 0 (dataOf h.target) { t with hangers := t.hangers.set slot.val (some g) })) ∧
    (∀ k, change.toNat.testBit 0 = true → develops → t.legStep h = some k →
      let target := (((k.time : Int) * 16 * (100 + g.push) + 50) / 100).toNat
      ∃ u h', Machine.exec (.amend m frame) s = .next (s.okay 0x24 0 (dataOf (some target)) u) ∧ u.settings = t.settings ∧
        u.hangers[slot] = some h' ∧ h'.push = g.push ∧ h'.area = g.area ∧ h'.target = some target ∧ h'.dose = h.dose ∧
        h'.fraction = h.fraction ∧ h'.provisional = h.provisional ∧
        (h.state = .immersed → h.dose < target → (∀ c j, (t.carriage c).job = some j → j.slot ≠ slot) →
          h'.state = .immersed ∧ u.queue = t.queue) ∧
        (h.state = .immersed → target ≤ h.dose → t.lineState ≠ .run → h'.state = .due ∧ ∀ r, h.position = some r →
          ∃ q ∈ u.queue, q.slot = slot ∧ q.cls = .exactDose ∧ q.deadline = t.beat ∧ q.source = r) ∧
        (∀ c j, h.state = .due → t.lineState ≠ .stopped → target ≤ h.dose → (t.carriage c).state = .awaitLift →
          (t.carriage c).job = some j → j.slot = slot → State.sendsLift c j { g with target := some target } t u))

/-- SET DOSE (R77, R78): on a record IMMERSED or DUE on an EXACT leg the dose is the given one, with fraction 0 and not provisional, and
target and overshoot stand; an IMMERSED record at or above its target is DUE with an EXACT request for the current beat, with detail 1;
a carriage that waits over a DUE one at its target lifts it, with its overshoot and mark (R74 to R76) and detail 2. A record in another state, or on a leg of another kind, is
refused, whether or not it has a target, and a payload of another form is refused first. -/
def Obligations.DoseIsSetByHand : Prop :=
  (∀ m, slotFormsRefused 0x25 3 (Instr.setDose m)) ∧
  ∀ (m a b c : Byte) (slot : Slot) (h : Hanger) (s : State), s.listening = true → (s.takeFrame 7).hangers[slot] = some h →
    let t := s.takeFrame 7
    let dose := a.toNat * 65536 + b.toNat * 256 + c.toNat
    let g := { h with dose := dose, fraction := 0, provisional := false }
    let frame : List Byte := [byte slot.val, a, b, c]
    let alone := ∀ c j, (t.carriage c).job = some j → j.slot ≠ slot
    (h.state ≠ .immersed → h.state ≠ .due →
      Machine.exec (.setDose m frame) s = .next (s.refusedAs 0x25 7 .wrongState h.state.code)) ∧
    (h.state = .immersed ∨ h.state = .due → t.legKind h ≠ some .exactDose →
      Machine.exec (.setDose m frame) s = .next (s.refusedAs 0x25 7 .wrongStepKind h.leg)) ∧
    ∀ target, h.target = some target →
    (h.state = .immersed ∨ h.state = .due → t.legKind h = some .exactDose → alone → dose < target ∨ h.state = .due →
      Machine.exec (.setDose m frame) s = .next (s.okay 0x25 0 (be24 dose ++ be24 target ++ [byte h.state.code])
        { t with hangers := t.hangers.set slot.val (some g) })) ∧
    (h.state = .immersed → t.legKind h = some .exactDose → target ≤ dose → ∃ u h',
      Machine.exec (.setDose m frame) s = .next (s.okay 0x25 1 (be24 dose ++ be24 target ++ [byte h'.state.code]) u) ∧
      u.settings = t.settings ∧ u.hangers[slot] = some h' ∧ h'.dose = dose ∧ h'.fraction = 0 ∧ h'.provisional = false ∧
      h'.target = some target ∧ (t.lineState ≠ .run → h'.state = .due ∧ ∀ r, h.position = some r →
        ∃ q ∈ u.queue, q.slot = slot ∧ q.cls = .exactDose ∧ q.deadline = t.beat ∧ q.source = r)) ∧
    (∀ k j, h.state = .due → t.legKind h = some .exactDose → target ≤ dose → t.lineState ≠ .stopped →
      (t.carriage k).state = .awaitLift → (t.carriage k).job = some j → j.slot = slot → ∃ u,
        Machine.exec (.setDose m frame) s = .next (s.okay 0x25 2 (be24 dose ++ be24 target ++ [4]) u) ∧
          u.settings = t.settings ∧ State.sendsLift k j g t u)

/-- PLACE, RECOVER (without a job), DISABLE and ENABLE CARRIAGE (R128 to R132): the tests in their order, and, when all pass, the carriage
takes the position, in its range, with the span [p, p] and no job, order or fault code; it is DISABLED and not enabled after DISABLE, and
else PARKED at its park and IDLE elsewhere; PLACE runs no arbitration, the others do (R113). A payload of another form is refused with
the details of 7.7. That it is refused before any other test, at PLACE CARRIAGE before the line state, and that DISABLE and ENABLE test the
state before the placement, is the model's choice (log 19, unsafe); for RECOVER CARRIAGE the order is R129's. -/
def Obligations.CarriagesAreSetInPlace : Prop :=
  (∀ m, placementFormsRefused 0x30 0 (Instr.placeCarriage m) ∧ placementFormsRefused 0x31 1 (Instr.recoverCarriage m) ∧
    placementFormsRefused 0x32 0 (Instr.disableCarriage m) ∧ placementFormsRefused 0x33 0 (Instr.enableCarriage m)) ∧
  ∀ (m o : Byte) (c : CarriageId) (q : Int) (s : State), s.listening = true → lowestOf c ≤ q → q ≤ highestOf c →
    let t := s.takeFrame 5
    let u := s.takeFrame 6
    let place : List Byte := [byte (carriageNumber c), byte (q + 1).toNat]
    let clear : State → Prop := fun v => ∀ w, (v.carriage (otherCarriage c)).span = some w → match c with
      | .one => q < w.lo
      | .two => w.hi < q
    let other := carriageNumber (otherCarriage c)
    let put : State → State := fun v => v.setCarriage c { (v.carriage c) with
      state := if q = parkOf c then .parked else .idle, enabled := true, position := some q, span := some ⟨q, q⟩, job := none,
      order := none, halted := none, faultCode := none }
    let x := (t.carriage c).state
    let y := (u.carriage c).state
    (t.lineState ≠ .config → Machine.exec (.placeCarriage m place) s = .next (s.refusedAs 0x30 5 .wrongLineState t.lineState.code)) ∧
    (t.lineState = .config → x = .disabled → Machine.exec (.placeCarriage m place) s = .next (s.refusedAs 0x30 5 .wrongState 12)) ∧
    (t.lineState = .config → x ≠ .disabled → ¬clear t →
      Machine.exec (.placeCarriage m place) s = .next (s.refusedAs 0x30 5 .badPlacement other)) ∧
    (t.lineState = .config → x ≠ .disabled → clear t → Machine.exec (.placeCarriage m place) s =
      .next (s.okay 0x30 (if q = parkOf c then 1 else 2) [] (put t))) ∧
    (y ≠ .fault → y ≠ .unplaced →
      Machine.exec (.recoverCarriage m (place ++ [o])) s = .next (s.refusedAs 0x31 6 .wrongState y.code)) ∧
    (y = .fault ∨ y = .unplaced → (u.carriage c).job = none → ¬clear u →
      Machine.exec (.recoverCarriage m (place ++ [o])) s = .next (s.refusedAs 0x31 6 .badPlacement other)) ∧
    (y = .fault ∨ y = .unplaced → (u.carriage c).job = none → clear u →
      Machine.exec (.recoverCarriage m (place ++ [o])) s = .next (s.okay 0x31 255 [] (put u).arbitrate)) ∧
    (x ≠ .unplaced → x ≠ .parked → x ≠ .idle → x ≠ .disabled → ¬(x = .fault ∧ (t.carriage c).job = none) →
      Machine.exec (.disableCarriage m place) s = .next (s.refusedAs 0x32 5 .wrongState x.code)) ∧
    (x = .unplaced ∨ x = .parked ∨ x = .idle ∨ x = .disabled ∨ (x = .fault ∧ (t.carriage c).job = none) →
      (¬clear t → Machine.exec (.disableCarriage m place) s = .next (s.refusedAs 0x32 5 .badPlacement other)) ∧
      (clear t → Machine.exec (.disableCarriage m place) s = .next (s.okay 0x32 0 [] (State.arbitrate (t.setCarriage c
        { (t.carriage c) with
          state := .disabled, enabled := false, position := some q, span := some ⟨q, q⟩, job := none, order := none,
          halted := none, faultCode := none }))))) ∧
    (x ≠ .disabled → Machine.exec (.enableCarriage m place) s = .next (s.refusedAs 0x33 5 .wrongState x.code)) ∧
    (x = .disabled → ¬clear t → Machine.exec (.enableCarriage m place) s = .next (s.refusedAs 0x33 5 .badPlacement other)) ∧
    (x = .disabled → clear t → Machine.exec (.enableCarriage m place) s = .next (s.okay 0x33 0 [] (put t).arbitrate))

/-- RECOVER CARRIAGE with a job (R53, R54, R129, R130): without an outcome, on a position that crosses the other carriage's span, or
RETURNED to a bay taken since, it is refused. REMOVED leaves the record FAULTED with that reason, without target or places; DELIVERED
begins the next leg in the reserved bay, and a source bay the hanger still occupied, no LIFTED having come, leaves use (R10, R11; the
model's choice, log 30, unsafe), and a bay given up is offered to the first pending request that fits it (R99, R104); RETURNED puts the record back in its source bay on its leg. The job then ends, the carriage takes its
position, and arbitration runs. The records are shown where the line is not in RUN, so that no grant takes them at once. -/
def Obligations.RecoverySettlesTheHanger : Prop :=
  ∀ (m : Byte) (c : CarriageId) (q : Int) (j : Job) (h : Hanger) (s : State), s.listening = true → lowestOf c ≤ q →
    q ≤ highestOf c →
    let t := s.takeFrame 6
    let frame : Byte → List Byte := fun o => [byte (carriageNumber c), byte (q + 1).toNat, o]
    let clear := ∀ w, (t.carriage (otherCarriage c)).span = some w → match c with
      | .one => q < w.lo
      | .two => w.hi < q
    let bay := (t.bayAt j.source).state
    let vacated : Byte → State → BayRef → Prop := fun o u r => (u.bayAt r).deferred = false ∧
      ((t.bayAt r).deferred = true → (u.bayAt r).state = .disabled) ∧
      ((t.bayAt r).deferred = false → State.offersBay r t u ∨ (o = 1 ∧ (∀ q ∈ t.queue, ¬t.fitsBay r.station q) ∧
        (u.bayAt r).state = .reserved j.slot ∧ ∃ q ∈ u.queue, q.slot = j.slot ∧ q.destination = some r))
    (t.carriage c).state = .fault → (t.carriage c).job = some j →
    (∀ o : Byte, o ≠ 1 → o ≠ 2 → o ≠ 3 →
      Machine.exec (.recoverCarriage m (frame o)) s = .next (s.refusedAs 0x31 6 .badForm 2)) ∧
    (∀ o : Byte, o = 1 ∨ o = 2 ∨ o = 3 → ¬clear → Machine.exec (.recoverCarriage m (frame o)) s =
      .next (s.refusedAs 0x31 6 .badPlacement (carriageNumber (otherCarriage c)))) ∧
    (clear → bay ≠ .empty → bay ≠ .occupied j.slot →
      Machine.exec (.recoverCarriage m (frame 1)) s = .next (s.refusedAs 0x31 6 .bayTaken bay.code)) ∧
    ∀ o : Byte, o = 1 ∧ (bay = .empty ∨ bay = .occupied j.slot) ∨ o = 2 ∨ o = 3 → clear → t.hangers[j.slot] = some h →
      t.lineState ≠ .run → (∀ q ∈ t.queue, q.slot ≠ j.slot) → h.destination ≠ some j.source →
      ∃ u, Machine.exec (.recoverCarriage m (frame o)) s = .next (s.okay 0x31 j.slot.val [] u) ∧
        u.settings = t.settings ∧ u.carriage (otherCarriage c) = t.carriage (otherCarriage c) ∧ u.sent = t.sent ∧
        u.channels = t.channels ∧
        u.carriage c = { (t.carriage c) with
          state := if q = parkOf c then .parked else .idle, enabled := true, position := some q, span := some ⟨q, q⟩,
          job := none, order := none, halted := none, faultCode := none } ∧
        (o = 1 → (u.bayAt j.source).state = .occupied j.slot ∧ (∀ d, h.destination = some d → vacated o u d) ∧
          (∀ r, r ≠ j.source → h.destination ≠ some r → u.bayAt r = t.bayAt r ∨
            ∃ q ∈ u.queue, q.slot = j.slot ∧ q.destination = some r) ∧ ∃ h', u.hangers[j.slot] = some h' ∧
          h'.position = some j.source ∧ h'.faultReason = none ∧ h'.leg = h.leg ∧ h'.stepStart = h.stepStart ∧ h'.dose = h.dose ∧
          h'.target = h.target ∧
          (h.leg = 0 → h'.state = .admitted ∧ ∃ q ∈ u.queue, q.slot = j.slot ∧ q.cls = .launch ∧ q.deadline = t.beat) ∧
          (t.legKind h = some .exactDose → h'.state = .due ∧ h'.overshoot = none ∧
            ∃ q ∈ u.queue, q.slot = j.slot ∧ q.cls = .exactDose ∧ q.deadline = t.beat) ∧
          (t.legKind h = some .timed ∨ t.legKind h = some .openEnded → h'.state = .immersed ∧ h'.destination = none)) ∧
        (o = 2 → ∀ d, h.destination = some d → (u.bayAt d).state = .occupied j.slot ∧ ∃ h', u.hangers[j.slot] = some h' ∧
          h'.position = some d ∧ h'.destination = none ∧ h'.faultReason = none ∧ h'.leg = h.leg + 1 ∧ h'.stepStart = t.beat ∧
          (bay = .occupied j.slot → vacated o u j.source) ∧
          (bay ≠ .occupied j.slot → u.bayAt j.source = t.bayAt j.source) ∧
          (∀ r, r ≠ d → r ≠ j.source → u.bayAt r = t.bayAt r) ∧
          ((t.stepsOf h)[h.leg]? = none → h'.state = .finished ∧ h'.target = none) ∧
          (∀ k, (t.stepsOf h)[h.leg]? = some k → h'.state = .immersed ∧
            h'.target = if k.kind = .exactDose then some (targetDose k.time h.push) else none)) ∧
        (o = 3 → u.hangers[j.slot] = some { h with faultReason := some .removed, destination := none, target := none } ∧
          (∀ d, h.destination = some d → vacated o u d) ∧ (bay = .occupied j.slot → vacated o u j.source) ∧
          (bay ≠ .occupied j.slot → u.bayAt j.source = t.bayAt j.source) ∧
          ∀ r, r ≠ j.source → h.destination ≠ some r → u.bayAt r = t.bayAt r)

/-- SET CHANNEL MODE (R142): the same mode changes nothing, with detail 1; another mode stages the channel off, with its latch off and its
enable kept, and where the channel leaves AUTO the run of the station that holds it ends short (R87; of more stations than R90 lets hold
it, the lowest), with every other station as it was. SET PATTERN (R138, R145): the entry's three numbers are replaced
together, a burst at or above the period stored as period − 1 with detail 1; entry 0 is fixed. Each refuses what is not of its form, in
the order of its rule. -/
def Obligations.ModesAndPatternsAreSet : Prop :=
  (∀ (m a b : Byte) (ch : ChannelNo) (mode : ChannelMode) (p : List Byte) (s : State), s.listening = true → p.length ≤ 64 →
     let t := s.takeFrame 5
     let frame : List Byte := [byte ch.val, byte mode.code]
     let x := t.channels[ch]
     let holds : StationNo → Prop := fun st => t.stations[st].pump.map pumpChannel = some ch
     let ends : StationNo → Prop := fun st => x.mode = .auto ∧ holds st ∧ (∀ i, holds i → st ≤ i) ∧
       t.stations[st].runRemaining ≠ none
     (x.mode = mode → Machine.exec (.setChannelMode m frame) s = .next (s.okay 0x38 1 [] t)) ∧
     (x.mode ≠ mode → ∃ u, Machine.exec (.setChannelMode m frame) s = .next (s.okay 0x38 0 [] u) ∧ u.settings = t.settings ∧
       u.hangers = t.hangers ∧ u.queue = t.queue ∧ (∀ c, u.carriage c = t.carriage c) ∧
       (∀ i, u.channels[i] = if i = ch then ⟨mode, x.enable, false, false⟩ else t.channels[i]) ∧
       (∀ st, ends st → u.stations[st] = { t.stations[st] with
         runRemaining := none
         pendingRuns := if t.stations[st].pendingRuns < 3 then t.stations[st].pendingRuns + 1 else t.stations[st].pendingRuns }) ∧
       (∀ st, ¬ends st → u.stations[st] = t.stations[st]) ∧
       ∀ k n, u.hasMark k n = true ↔ t.hasMark k n = true ∨
         (k = .replenishBacklog ∧ ∃ st : StationNo, n = st.val ∧ ends st ∧ 3 ≤ t.stations[st].pendingRuns)) ∧
     (20 ≤ a.toNat → Machine.exec (.setChannelMode m [a, b]) s = .next (s.refusedAs 0x38 5 .badForm 1)) ∧
     (a.toNat < 20 → 3 ≤ b.toNat → Machine.exec (.setChannelMode m [a, b]) s = .next (s.refusedAs 0x38 5 .badForm 2)) ∧
     (p.length ≠ 2 → Machine.exec (.setChannelMode m p) s = .next (s.refusedAs 0x38 (3 + p.length) .badForm 0))) ∧
  ∀ (m a initial burst period : Byte) (e : Fin 7) (p : List Byte) (s : State), s.listening = true → p.length ≤ 64 →
    let stored := if burst.toNat < period.toNat then burst.toNat else period.toNat - 1
    (burst ≠ 0 → 2 ≤ period.toNat → Machine.exec (.setPattern m [byte (e.val + 1), initial, burst, period]) s =
      .next (s.okay 0x3B (if stored = burst.toNat then 0 else 1) [byte (e.val + 1), initial, byte stored, period]
        { s.takeFrame 7 with
          patterns := (s.takeFrame 7).patterns.set e.val ⟨initial.toNat, stored, period.toNat⟩ })) ∧
    (a = 0 ∨ 7 < a.toNat → Machine.exec (.setPattern m [a, initial, burst, period]) s = .next (s.refusedAs 0x3B 7 .badForm 1)) ∧
    (Machine.exec (.setPattern m [byte (e.val + 1), initial, 0, period]) s = .next (s.refusedAs 0x3B 7 .badForm 3)) ∧
    (burst ≠ 0 → period.toNat < 2 → Machine.exec (.setPattern m [byte (e.val + 1), initial, burst, period]) s =
      .next (s.refusedAs 0x3B 7 .badForm 4)) ∧
    (p.length ≠ 4 → Machine.exec (.setPattern m p) s = .next (s.refusedAs 0x3B (3 + p.length) .badForm 0))

/-- ENABLE OUTPUTS and SET MANUAL OUTPUTS (R136, R143, R144): the first sets or clears the enables of the channels named, a cleared one
with its latch off, and is refused while the LINE STOP input is active; the second stages the channels named, all of them in MANUAL, a
channel staged off with its latch off. No latch comes on at either, and no other channel is written by either. The run of the station that
holds a pump channel in AUTO whose enable becomes clear ends short, with that channel staged off (R87; of more stations than R90 lets hold
it, the lowest), and every other station is as it was. -/
def Obligations.OutputsAreEnabledAndStaged : Prop :=
  ∀ (m n0 n1 n2 v0 v1 v2 : Byte) (p : List Byte) (s : State), s.listening = true → p.length ≤ 64 →
    let t := s.takeFrame 9
    let frame : List Byte := [n0, n1, n2, v0, v1, v2]
    let named : ChannelNo → Bool := fun ch => (n0.toNat + n1.toNat * 256 + n2.toNat * 65536).testBit ch.val
    let value : ChannelNo → Bool := fun ch => (v0.toNat + v1.toNat * 256 + v2.toNat * 65536).testBit ch.val
    let clears : ChannelNo → Prop := fun ch => named ch = true ∧ value ch = false ∧ t.channels[ch].mode = .auto ∧
      t.channels[ch].enable = true
    let holds : ChannelNo → StationNo → Prop := fun ch st => t.stations[st].pump.map pumpChannel = some ch
    let ends : ChannelNo → StationNo → Prop := fun ch st => clears ch ∧ holds ch st ∧ (∀ i, holds ch i → st ≤ i) ∧
      t.stations[st].runRemaining ≠ none
    (t.stopActive = true → Machine.exec (.enableOutputs m frame) s = .next (s.refusedAs 0x39 9 .stopInputActive 0)) ∧
    (t.stopActive = false → ∃ u, Machine.exec (.enableOutputs m frame) s =
        .next (s.okay 0x39 0 (channelSetBytes fun ch => u.channels[ch].enable) u) ∧
      u.settings = t.settings ∧ u.hangers = t.hangers ∧ u.queue = t.queue ∧ (∀ c, u.carriage c = t.carriage c) ∧
      (∀ st, (∀ ch, ¬ends ch st) → u.stations[st] = t.stations[st]) ∧
      (∀ k n, u.hasMark k n = true ↔ t.hasMark k n = true ∨
        (k = .replenishBacklog ∧ ∃ (ch : ChannelNo) (st : StationNo), n = st.val ∧ ends ch st ∧ 3 ≤ t.stations[st].pendingRuns)) ∧
      ∀ ch : ChannelNo, u.channels[ch].mode = t.channels[ch].mode ∧
        u.channels[ch].enable = (if named ch then value ch else t.channels[ch].enable) ∧
        u.channels[ch].latch = (t.channels[ch].latch && !(named ch && !value ch)) ∧
        (∀ st, ends ch st → u.channels[ch].staged = false ∧ u.stations[st] = { t.stations[st] with
          runRemaining := none
          pendingRuns := if t.stations[st].pendingRuns < 3 then t.stations[st].pendingRuns + 1
            else t.stations[st].pendingRuns }) ∧
        ((∀ st, ¬ends ch st) → u.channels[ch].staged = t.channels[ch].staged)) ∧
    (∀ ch : ChannelNo, named ch = true → t.channels[ch].mode ≠ .manual →
      (∀ i : ChannelNo, i < ch → named i = true → t.channels[i].mode = .manual) →
      Machine.exec (.setManualOutputs m frame) s = .next (s.refusedAs 0x3A 9 .wrongState ch.val)) ∧
    ((∀ ch : ChannelNo, named ch = true → t.channels[ch].mode = .manual) → ∃ u, Machine.exec (.setManualOutputs m frame) s =
        .next (s.okay 0x3A 0 (channelSetBytes fun ch => u.channels[ch].staged) u) ∧ { u with channels := t.channels } = t ∧
      ∀ ch : ChannelNo, u.channels[ch] = if named ch then
        { t.channels[ch] with staged := value ch, latch := t.channels[ch].latch && value ch } else t.channels[ch]) ∧
    (p.length ≠ 6 → Machine.exec (.enableOutputs m p) s =
        .next (s.refusedAs 0x39 (3 + p.length) .badForm 0) ∧
      Machine.exec (.setManualOutputs m p) s = .next (s.refusedAs 0x3A (3 + p.length) .badForm 0))

/-- SET MASK, SET LEVEL and DONE (R176, R178, R179): the mask is set outside service alone; a level is stored, above 7 as 7 with detail 1;
DONE ends the service with the mask saved last, and clears no mark. CLEAR MARK (R180): a mark that is set is cleared, with detail 1; one
that is clear changes nothing; the subject byte of a line kind is not read. Each refuses in the order of its rule. -/
def Obligations.MasksLevelsAndMarksAreSet : Prop :=
  (∀ (m a b : Byte) (k : Kind) (p : List Byte) (s : State), s.listening = true → p.length ≤ 64 →
     let t := s.takeFrame 3
     let u := s.takeFrame 4
     let v := s.takeFrame 5
     let level := if 7 < b.toNat then 7 else b.toNat
     (a.toNat ≤ 7 → u.maskStack = [] → Machine.exec (.setMask m [a]) s = .next (s.okay 0x42 a.toNat [] { u with mask := a.toNat })) ∧
     (a.toNat ≤ 7 → u.maskStack ≠ [] →
       Machine.exec (.setMask m [a]) s = .next (s.refusedAs 0x42 4 .wrongState u.maskStack.length)) ∧
     (7 < a.toNat → Machine.exec (.setMask m [a]) s = .next (s.refusedAs 0x42 4 .badForm 1)) ∧
     (p.length ≠ 1 → Machine.exec (.setMask m p) s = .next (s.refusedAs 0x42 (3 + p.length) .badForm 0)) ∧
     (Machine.exec (.setLevel m [byte k.number.val, b]) s = .next (s.okay 0x43 (if 7 < b.toNat then 1 else 0)
       ((v.levels.set k.number.val level).toList.map byte) { v with levels := v.levels.set k.number.val level })) ∧
     (12 < a.toNat → Machine.exec (.setLevel m [a, b]) s = .next (s.refusedAs 0x43 5 .badForm 1)) ∧
     (p.length ≠ 2 → Machine.exec (.setLevel m p) s = .next (s.refusedAs 0x43 (3 + p.length) .badForm 0)) ∧
     (t.maskStack = [] → Machine.exec (.doneService m []) s = .next (s.refusedAs 0x41 3 .notInService 0)) ∧
     (∀ top rest, t.maskStack = top :: rest → Machine.exec (.doneService m []) s =
       .next (s.okay 0x41 top [byte rest.length] { t with mask := top, maskStack := rest })) ∧
     (p ≠ [] → Machine.exec (.doneService m p) s = .next (s.refusedAs 0x41 (3 + p.length) .badForm 0))) ∧
  ∀ (m a b : Byte) (k : Kind) (n : Nat) (p : List Byte) (s : State), s.listening = true → p.length ≤ 64 →
    let t := s.takeFrame 5
    let names : Prop := match k.subject with
      | .line => n = 0
      | .slot => n = b.toNat ∧ n ≤ 47
      | .station => n = b.toNat ∧ n ≤ 15
      | .carriage => n = b.toNat ∧ (n = 1 ∨ n = 2)
    let beyond : Prop := match k.subject with
      | .line => False
      | .slot => 47 < b.toNat
      | .station => 15 < b.toNat
      | .carriage => b.toNat ≠ 1 ∧ b.toNat ≠ 2
    let frame : List Byte := [byte k.number.val, b]
    (names → t.hasMark k n = true → Machine.exec (.clearMark m frame) s = .next (s.okay 0x44 1 []
      { t with marks := t.marks.set k.number.val ((t.marked k).filter fun x => x != n) })) ∧
    (names → t.hasMark k n = false → Machine.exec (.clearMark m frame) s = .next (s.okay 0x44 0 [] t)) ∧
    (beyond → Machine.exec (.clearMark m frame) s = .next (s.refusedAs 0x44 5 .badForm 2)) ∧
    (12 < a.toNat → Machine.exec (.clearMark m [a, b]) s = .next (s.refusedAs 0x44 5 .badForm 1)) ∧
    (p.length ≠ 2 → Machine.exec (.clearMark m p) s = .next (s.refusedAs 0x44 (3 + p.length) .badForm 0))

/-- ACK (R176, R177): among the pending kinds whose level is below the mask it takes the one of the lowest level, of those the lowest
number, and its lowest subject; the mask is saved and becomes that level; the answer gives the service and, for a slot, the record's
image, and without QUIET the record's RECORD_CHANGED is cleared. That the number of subjects and the image are those before that clear
is the model's choice for the number (log 19, unsafe). With none such it answers NONE and changes nothing. The attention line is
asserted exactly when there is one. The marks stand in order, as every step keeps them. -/
def Obligations.AckTakesTheMostUrgent : Prop :=
  ∀ (m : Byte) (p : List Byte) (k : Kind) (n : Nat) (s : State), s.listening = true → p.length ≤ 64 →
    let t := s.takeFrame 3
    let calls : Kind → Prop := fun x => t.marked x ≠ [] ∧ t.levelOf x < t.mask
    (t.attention = true ↔ ∃ x, calls x) ∧
    ((∀ x, ¬calls x) → Machine.exec (.ack m []) s = .next (t.answer 0x40 s.buffer.isReady .nothing none 0 [])) ∧
    (t.marksInOrder → calls k →
      (∀ x, calls x → t.levelOf k < t.levelOf x ∨ (t.levelOf k = t.levelOf x ∧ k.number ≤ x.number)) →
      t.hasMark k n = true → (∀ i, t.hasMark k i = true → n ≤ i) →
      ∃ u, Machine.exec (.ack m []) s = .next (s.okay 0x40 k.number.val
          ([byte k.number.val, byte (t.levelOf k), byte n, byte (t.marked k).length, byte (t.levelOf k),
            byte (t.maskStack.length + 1)] ++
            (if h : k.subject = .slot ∧ n < 48 then t.hangerImage ⟨n, h.2⟩ else [])) u) ∧
        u.mask = t.levelOf k ∧ u.maskStack = t.mask :: t.maskStack ∧
        { u with mask := t.mask, maskStack := t.maskStack, marks := t.marks } = t ∧
        (∀ x y, u.hasMark x y = (t.hasMark x y && !(!m.toNat.testBit 5 && decide (k.subject = .slot) && decide (x = .recordChanged) &&
          decide (y = n) && (if h : n < 48 then (t.hangers[(⟨n, h⟩ : Slot)]).isSome else false))))) ∧
    (p ≠ [] → Machine.exec (.ack m p) s = .next (s.refusedAs 0x40 (3 + p.length) .badForm 0))

/-- The rate of a temperature value (R64): the value is clamped to 256..512, which makes the increment provisional exactly where it
changes the value; the clamped value is split, and the rate is interpolated between two entries, rounded down, and lies within 64 to 1023
with them. The rows of the rule's table are those of the rates after reset. -/
def Obligations.RatesAreInterpolated : Prop :=
  (∀ (table : Vector Nat 17) (x : Station) (v : Nat), x.heldValue = some v →
    let c := if v < 256 then 256 else if 512 < v then 512 else v
    let idx := (c - 256) / 16
    let frac := (c - 256) % 16
    256 ≤ c ∧ c ≤ 512 ∧ idx ≤ 16 ∧ frac ≤ 15 ∧
    (x.valid = true → ((stationRate table x).2 = true ↔ v < 256 ∨ 512 < v)) ∧
    (v < 256 ∨ 512 < v → incrementProvisional table x = true) ∧
    (idx = 16 → (stationRate table x).1 = table[16]) ∧
    (∀ i : Fin 16, idx = i.val → (stationRate table x).1 = (table[i.val] * (16 - frac) + table[i.val + 1] * frac) / 16)) ∧
  (∀ (table : Vector Nat 17) (x : Station), (∀ i : Fin 17, 64 ≤ table[i] ∧ table[i] ≤ 1023) →
    64 ≤ (stationRate table x).1 ∧ (stationRate table x).1 ≤ 1023) ∧
  (∀ (table : Vector Nat 17) (x : Station), x.heldValue = none → stationRate table x = (256, true)) ∧
  [200, 320, 360, 370, 511, 512, 600].map (rateAt resetRates) = [177, 256, 323, 342, 771, 776, 776]

/-- The increment of one beat (R69): N = 2 × F × A within its bounds, added to the fraction; the whole DU go to the dose, which saturates
at 16,777,215, and the rest is the new fraction. At the reference conditions a beat gives 2 DU and keeps the fraction; over k beats at a
constant N from fraction 0 the dose is (k × N) div 262,144 until it saturates; an increment is at most 8 whole DU, 1 DU in four beats at
the slowest rate, and at that rate a dose from 0 saturates after more than 67 million beats. -/
def Obligations.DevelopmentIsExact : Prop :=
  (∀ (table : Vector Nat 17) (x : Station), beatYield table x = 2 * (stationRate table x).1 * x.activity) ∧
  (∀ (table : Vector Nat 17) (x : Station), (∀ i : Fin 17, 64 ≤ table[i] ∧ table[i] ≤ 1023) → 512 ≤ x.activity →
    x.activity ≤ 1024 → 65536 ≤ beatYield table x ∧ beatYield table x ≤ 2095104) ∧
  (∀ (h : Hanger) (n : Nat) (b : Bool),
    (h.developed n b).dose = min 16777215 (h.dose + (h.fraction + n) / 262144) ∧
    (h.developed n b).fraction = (h.fraction + n) % 262144 ∧
    (h.fraction < 262144 → n ≤ 2095104 → h.dose ≤ 16777215 →
      h.dose ≤ (h.developed n b).dose ∧ (h.developed n b).dose ≤ h.dose + 8) ∧
    (n = 524288 → h.fraction < 262144 → h.dose ≤ 16777213 → (h.developed n b).dose = h.dose + 2 ∧
      (h.developed n b).fraction = h.fraction)) ∧
  (∀ (table : Vector Nat 17) (x : Station), (stationRate table x).1 = 256 → x.activity = 1024 → beatYield table x = 524288) ∧
  (∀ k n : Nat, Nat.repeat (fun d : Nat × Nat => incremented d.1 d.2 n) k (0, 0) =
    (min 16777215 (k * n / 262144), k * n % 262144)) ∧
  (∀ k : Nat, (Nat.repeat (fun d : Nat × Nat => incremented d.1 d.2 65536) k (0, 0)).1 = min 16777215 (k / 4)) ∧
  ∀ k : Nat, (Nat.repeat (fun d : Nat × Nat => incremented d.1 d.2 65536) k (0, 0)).1 = 16777215 → 67000000 < k

end
end

