-- ==== Sys2Proof/Laws/State.lean ====
section
/-! SUPPORT. The small lemmas of the state: one per field per update, so that no later proof unfolds a record update. -/

namespace Sys2Proof.Machine

variable (s : State)

/-! ### setStation -/

@[simp] theorem State.setStation_prescaler (st : StationNo) (x : Station) : (s.setStation st x).prescaler = s.prescaler := rfl
@[simp] theorem State.setStation_beat (st : StationNo) (x : Station) : (s.setStation st x).beat = s.beat := rfl
@[simp] theorem State.setStation_lineState (st : StationNo) (x : Station) : (s.setStation st x).lineState = s.lineState := rfl
@[simp] theorem State.setStation_stopActive (st : StationNo) (x : Station) : (s.setStation st x).stopActive = s.stopActive := rfl
@[simp] theorem State.setStation_stations (st : StationNo) (x : Station) : (s.setStation st x).stations = s.stations.set st.val x := rfl
@[simp] theorem State.setStation_banks (st : StationNo) (x : Station) : (s.setStation st x).banks = s.banks := rfl
@[simp] theorem State.setStation_loadArea (st : StationNo) (x : Station) : (s.setStation st x).loadArea = s.loadArea := rfl
@[simp] theorem State.setStation_rates (st : StationNo) (x : Station) : (s.setStation st x).rates = s.rates := rfl
@[simp] theorem State.setStation_hangers (st : StationNo) (x : Station) : (s.setStation st x).hangers = s.hangers := rfl
@[simp] theorem State.setStation_tagIndex (st : StationNo) (x : Station) : (s.setStation st x).tagIndex = s.tagIndex := rfl
@[simp] theorem State.setStation_queue (st : StationNo) (x : Station) : (s.setStation st x).queue = s.queue := rfl
@[simp] theorem State.setStation_carriage1 (st : StationNo) (x : Station) : (s.setStation st x).carriage1 = s.carriage1 := rfl
@[simp] theorem State.setStation_carriage2 (st : StationNo) (x : Station) : (s.setStation st x).carriage2 = s.carriage2 := rfl
@[simp] theorem State.setStation_channels (st : StationNo) (x : Station) : (s.setStation st x).channels = s.channels := rfl
@[simp] theorem State.setStation_patterns (st : StationNo) (x : Station) : (s.setStation st x).patterns = s.patterns := rfl
@[simp] theorem State.setStation_marks (st : StationNo) (x : Station) : (s.setStation st x).marks = s.marks := rfl
@[simp] theorem State.setStation_levels (st : StationNo) (x : Station) : (s.setStation st x).levels = s.levels := rfl
@[simp] theorem State.setStation_mask (st : StationNo) (x : Station) : (s.setStation st x).mask = s.mask := rfl
@[simp] theorem State.setStation_maskStack (st : StationNo) (x : Station) : (s.setStation st x).maskStack = s.maskStack := rfl
@[simp] theorem State.setStation_params (st : StationNo) (x : Station) : (s.setStation st x).params = s.params := rfl
@[simp] theorem State.setStation_buffer (st : StationNo) (x : Station) : (s.setStation st x).buffer = s.buffer := rfl
@[simp] theorem State.setStation_sequence (st : StationNo) (x : Station) : (s.setStation st x).sequence = s.sequence := rfl
@[simp] theorem State.setStation_bankPointer (st : StationNo) (x : Station) : (s.setStation st x).bankPointer = s.bankPointer := rfl
@[simp] theorem State.setStation_openFrame (st : StationNo) (x : Station) : (s.setStation st x).openFrame = s.openFrame := rfl
@[simp] theorem State.setStation_receivers (st : StationNo) (x : Station) : (s.setStation st x).receivers = s.receivers := rfl
@[simp] theorem State.setStation_sent (st : StationNo) (x : Station) : (s.setStation st x).sent = s.sent := rfl
@[simp] theorem State.setStation_shifted (st : StationNo) (x : Station) : (s.setStation st x).shifted = s.shifted := rfl
@[simp] theorem State.setStation_due (st : StationNo) (x : Station) : (s.setStation st x).due = s.due := rfl
@[simp] theorem State.setStation_draws (st : StationNo) (x : Station) : (s.setStation st x).draws = s.draws := rfl
@[simp] theorem State.setStation_pending (st : StationNo) (x : Station) : (s.setStation st x).pending = s.pending := rfl

/-! ### setBank -/

@[simp] theorem State.setBank_prescaler (b : BankNo) (x : Bank) : (s.setBank b x).prescaler = s.prescaler := rfl
@[simp] theorem State.setBank_beat (b : BankNo) (x : Bank) : (s.setBank b x).beat = s.beat := rfl
@[simp] theorem State.setBank_lineState (b : BankNo) (x : Bank) : (s.setBank b x).lineState = s.lineState := rfl
@[simp] theorem State.setBank_stopActive (b : BankNo) (x : Bank) : (s.setBank b x).stopActive = s.stopActive := rfl
@[simp] theorem State.setBank_stations (b : BankNo) (x : Bank) : (s.setBank b x).stations = s.stations := rfl
@[simp] theorem State.setBank_banks (b : BankNo) (x : Bank) : (s.setBank b x).banks = s.banks.set b.val x := rfl
@[simp] theorem State.setBank_loadArea (b : BankNo) (x : Bank) : (s.setBank b x).loadArea = s.loadArea := rfl
@[simp] theorem State.setBank_rates (b : BankNo) (x : Bank) : (s.setBank b x).rates = s.rates := rfl
@[simp] theorem State.setBank_hangers (b : BankNo) (x : Bank) : (s.setBank b x).hangers = s.hangers := rfl
@[simp] theorem State.setBank_tagIndex (b : BankNo) (x : Bank) : (s.setBank b x).tagIndex = s.tagIndex := rfl
@[simp] theorem State.setBank_queue (b : BankNo) (x : Bank) : (s.setBank b x).queue = s.queue := rfl
@[simp] theorem State.setBank_carriage1 (b : BankNo) (x : Bank) : (s.setBank b x).carriage1 = s.carriage1 := rfl
@[simp] theorem State.setBank_carriage2 (b : BankNo) (x : Bank) : (s.setBank b x).carriage2 = s.carriage2 := rfl
@[simp] theorem State.setBank_channels (b : BankNo) (x : Bank) : (s.setBank b x).channels = s.channels := rfl
@[simp] theorem State.setBank_patterns (b : BankNo) (x : Bank) : (s.setBank b x).patterns = s.patterns := rfl
@[simp] theorem State.setBank_marks (b : BankNo) (x : Bank) : (s.setBank b x).marks = s.marks := rfl
@[simp] theorem State.setBank_levels (b : BankNo) (x : Bank) : (s.setBank b x).levels = s.levels := rfl
@[simp] theorem State.setBank_mask (b : BankNo) (x : Bank) : (s.setBank b x).mask = s.mask := rfl
@[simp] theorem State.setBank_maskStack (b : BankNo) (x : Bank) : (s.setBank b x).maskStack = s.maskStack := rfl
@[simp] theorem State.setBank_params (b : BankNo) (x : Bank) : (s.setBank b x).params = s.params := rfl
@[simp] theorem State.setBank_buffer (b : BankNo) (x : Bank) : (s.setBank b x).buffer = s.buffer := rfl
@[simp] theorem State.setBank_sequence (b : BankNo) (x : Bank) : (s.setBank b x).sequence = s.sequence := rfl
@[simp] theorem State.setBank_bankPointer (b : BankNo) (x : Bank) : (s.setBank b x).bankPointer = s.bankPointer := rfl
@[simp] theorem State.setBank_openFrame (b : BankNo) (x : Bank) : (s.setBank b x).openFrame = s.openFrame := rfl
@[simp] theorem State.setBank_receivers (b : BankNo) (x : Bank) : (s.setBank b x).receivers = s.receivers := rfl
@[simp] theorem State.setBank_sent (b : BankNo) (x : Bank) : (s.setBank b x).sent = s.sent := rfl
@[simp] theorem State.setBank_shifted (b : BankNo) (x : Bank) : (s.setBank b x).shifted = s.shifted := rfl
@[simp] theorem State.setBank_due (b : BankNo) (x : Bank) : (s.setBank b x).due = s.due := rfl
@[simp] theorem State.setBank_draws (b : BankNo) (x : Bank) : (s.setBank b x).draws = s.draws := rfl
@[simp] theorem State.setBank_pending (b : BankNo) (x : Bank) : (s.setBank b x).pending = s.pending := rfl

/-! ### setHanger -/

@[simp] theorem State.setHanger_prescaler (slot : Slot) (x : Option Hanger) : (s.setHanger slot x).prescaler = s.prescaler := rfl
@[simp] theorem State.setHanger_beat (slot : Slot) (x : Option Hanger) : (s.setHanger slot x).beat = s.beat := rfl
@[simp] theorem State.setHanger_lineState (slot : Slot) (x : Option Hanger) : (s.setHanger slot x).lineState = s.lineState := rfl
@[simp] theorem State.setHanger_stopActive (slot : Slot) (x : Option Hanger) : (s.setHanger slot x).stopActive = s.stopActive := rfl
@[simp] theorem State.setHanger_stations (slot : Slot) (x : Option Hanger) : (s.setHanger slot x).stations = s.stations := rfl
@[simp] theorem State.setHanger_banks (slot : Slot) (x : Option Hanger) : (s.setHanger slot x).banks = s.banks := rfl
@[simp] theorem State.setHanger_loadArea (slot : Slot) (x : Option Hanger) : (s.setHanger slot x).loadArea = s.loadArea := rfl
@[simp] theorem State.setHanger_rates (slot : Slot) (x : Option Hanger) : (s.setHanger slot x).rates = s.rates := rfl
@[simp] theorem State.setHanger_hangers (slot : Slot) (x : Option Hanger) : (s.setHanger slot x).hangers = s.hangers.set slot.val x := rfl
@[simp] theorem State.setHanger_tagIndex (slot : Slot) (x : Option Hanger) : (s.setHanger slot x).tagIndex = s.tagIndex := rfl
@[simp] theorem State.setHanger_queue (slot : Slot) (x : Option Hanger) : (s.setHanger slot x).queue = s.queue := rfl
@[simp] theorem State.setHanger_carriage1 (slot : Slot) (x : Option Hanger) : (s.setHanger slot x).carriage1 = s.carriage1 := rfl
@[simp] theorem State.setHanger_carriage2 (slot : Slot) (x : Option Hanger) : (s.setHanger slot x).carriage2 = s.carriage2 := rfl
@[simp] theorem State.setHanger_channels (slot : Slot) (x : Option Hanger) : (s.setHanger slot x).channels = s.channels := rfl
@[simp] theorem State.setHanger_patterns (slot : Slot) (x : Option Hanger) : (s.setHanger slot x).patterns = s.patterns := rfl
@[simp] theorem State.setHanger_marks (slot : Slot) (x : Option Hanger) : (s.setHanger slot x).marks = s.marks := rfl
@[simp] theorem State.setHanger_levels (slot : Slot) (x : Option Hanger) : (s.setHanger slot x).levels = s.levels := rfl
@[simp] theorem State.setHanger_mask (slot : Slot) (x : Option Hanger) : (s.setHanger slot x).mask = s.mask := rfl
@[simp] theorem State.setHanger_maskStack (slot : Slot) (x : Option Hanger) : (s.setHanger slot x).maskStack = s.maskStack := rfl
@[simp] theorem State.setHanger_params (slot : Slot) (x : Option Hanger) : (s.setHanger slot x).params = s.params := rfl
@[simp] theorem State.setHanger_buffer (slot : Slot) (x : Option Hanger) : (s.setHanger slot x).buffer = s.buffer := rfl
@[simp] theorem State.setHanger_sequence (slot : Slot) (x : Option Hanger) : (s.setHanger slot x).sequence = s.sequence := rfl
@[simp] theorem State.setHanger_bankPointer (slot : Slot) (x : Option Hanger) : (s.setHanger slot x).bankPointer = s.bankPointer := rfl
@[simp] theorem State.setHanger_openFrame (slot : Slot) (x : Option Hanger) : (s.setHanger slot x).openFrame = s.openFrame := rfl
@[simp] theorem State.setHanger_receivers (slot : Slot) (x : Option Hanger) : (s.setHanger slot x).receivers = s.receivers := rfl
@[simp] theorem State.setHanger_sent (slot : Slot) (x : Option Hanger) : (s.setHanger slot x).sent = s.sent := rfl
@[simp] theorem State.setHanger_shifted (slot : Slot) (x : Option Hanger) : (s.setHanger slot x).shifted = s.shifted := rfl
@[simp] theorem State.setHanger_due (slot : Slot) (x : Option Hanger) : (s.setHanger slot x).due = s.due := rfl
@[simp] theorem State.setHanger_draws (slot : Slot) (x : Option Hanger) : (s.setHanger slot x).draws = s.draws := rfl
@[simp] theorem State.setHanger_pending (slot : Slot) (x : Option Hanger) : (s.setHanger slot x).pending = s.pending := rfl

/-! ### setChannel -/

@[simp] theorem State.setChannel_prescaler (ch : ChannelNo) (x : Channel) : (s.setChannel ch x).prescaler = s.prescaler := rfl
@[simp] theorem State.setChannel_beat (ch : ChannelNo) (x : Channel) : (s.setChannel ch x).beat = s.beat := rfl
@[simp] theorem State.setChannel_lineState (ch : ChannelNo) (x : Channel) : (s.setChannel ch x).lineState = s.lineState := rfl
@[simp] theorem State.setChannel_stopActive (ch : ChannelNo) (x : Channel) : (s.setChannel ch x).stopActive = s.stopActive := rfl
@[simp] theorem State.setChannel_stations (ch : ChannelNo) (x : Channel) : (s.setChannel ch x).stations = s.stations := rfl
@[simp] theorem State.setChannel_banks (ch : ChannelNo) (x : Channel) : (s.setChannel ch x).banks = s.banks := rfl
@[simp] theorem State.setChannel_loadArea (ch : ChannelNo) (x : Channel) : (s.setChannel ch x).loadArea = s.loadArea := rfl
@[simp] theorem State.setChannel_rates (ch : ChannelNo) (x : Channel) : (s.setChannel ch x).rates = s.rates := rfl
@[simp] theorem State.setChannel_hangers (ch : ChannelNo) (x : Channel) : (s.setChannel ch x).hangers = s.hangers := rfl
@[simp] theorem State.setChannel_tagIndex (ch : ChannelNo) (x : Channel) : (s.setChannel ch x).tagIndex = s.tagIndex := rfl
@[simp] theorem State.setChannel_queue (ch : ChannelNo) (x : Channel) : (s.setChannel ch x).queue = s.queue := rfl
@[simp] theorem State.setChannel_carriage1 (ch : ChannelNo) (x : Channel) : (s.setChannel ch x).carriage1 = s.carriage1 := rfl
@[simp] theorem State.setChannel_carriage2 (ch : ChannelNo) (x : Channel) : (s.setChannel ch x).carriage2 = s.carriage2 := rfl
@[simp] theorem State.setChannel_channels (ch : ChannelNo) (x : Channel) : (s.setChannel ch x).channels = s.channels.set ch.val x := rfl
@[simp] theorem State.setChannel_patterns (ch : ChannelNo) (x : Channel) : (s.setChannel ch x).patterns = s.patterns := rfl
@[simp] theorem State.setChannel_marks (ch : ChannelNo) (x : Channel) : (s.setChannel ch x).marks = s.marks := rfl
@[simp] theorem State.setChannel_levels (ch : ChannelNo) (x : Channel) : (s.setChannel ch x).levels = s.levels := rfl
@[simp] theorem State.setChannel_mask (ch : ChannelNo) (x : Channel) : (s.setChannel ch x).mask = s.mask := rfl
@[simp] theorem State.setChannel_maskStack (ch : ChannelNo) (x : Channel) : (s.setChannel ch x).maskStack = s.maskStack := rfl
@[simp] theorem State.setChannel_params (ch : ChannelNo) (x : Channel) : (s.setChannel ch x).params = s.params := rfl
@[simp] theorem State.setChannel_buffer (ch : ChannelNo) (x : Channel) : (s.setChannel ch x).buffer = s.buffer := rfl
@[simp] theorem State.setChannel_sequence (ch : ChannelNo) (x : Channel) : (s.setChannel ch x).sequence = s.sequence := rfl
@[simp] theorem State.setChannel_bankPointer (ch : ChannelNo) (x : Channel) : (s.setChannel ch x).bankPointer = s.bankPointer := rfl
@[simp] theorem State.setChannel_openFrame (ch : ChannelNo) (x : Channel) : (s.setChannel ch x).openFrame = s.openFrame := rfl
@[simp] theorem State.setChannel_receivers (ch : ChannelNo) (x : Channel) : (s.setChannel ch x).receivers = s.receivers := rfl
@[simp] theorem State.setChannel_sent (ch : ChannelNo) (x : Channel) : (s.setChannel ch x).sent = s.sent := rfl
@[simp] theorem State.setChannel_shifted (ch : ChannelNo) (x : Channel) : (s.setChannel ch x).shifted = s.shifted := rfl
@[simp] theorem State.setChannel_due (ch : ChannelNo) (x : Channel) : (s.setChannel ch x).due = s.due := rfl
@[simp] theorem State.setChannel_draws (ch : ChannelNo) (x : Channel) : (s.setChannel ch x).draws = s.draws := rfl
@[simp] theorem State.setChannel_pending (ch : ChannelNo) (x : Channel) : (s.setChannel ch x).pending = s.pending := rfl

/-! ### setCarriage -/

@[simp] theorem State.setCarriage_prescaler (c : CarriageId) (x : Carriage) : (s.setCarriage c x).prescaler = s.prescaler := by cases c <;> rfl
@[simp] theorem State.setCarriage_beat (c : CarriageId) (x : Carriage) : (s.setCarriage c x).beat = s.beat := by cases c <;> rfl
@[simp] theorem State.setCarriage_lineState (c : CarriageId) (x : Carriage) : (s.setCarriage c x).lineState = s.lineState := by cases c <;> rfl
@[simp] theorem State.setCarriage_stopActive (c : CarriageId) (x : Carriage) : (s.setCarriage c x).stopActive = s.stopActive := by cases c <;> rfl
@[simp] theorem State.setCarriage_stations (c : CarriageId) (x : Carriage) : (s.setCarriage c x).stations = s.stations := by cases c <;> rfl
@[simp] theorem State.setCarriage_banks (c : CarriageId) (x : Carriage) : (s.setCarriage c x).banks = s.banks := by cases c <;> rfl
@[simp] theorem State.setCarriage_loadArea (c : CarriageId) (x : Carriage) : (s.setCarriage c x).loadArea = s.loadArea := by cases c <;> rfl
@[simp] theorem State.setCarriage_rates (c : CarriageId) (x : Carriage) : (s.setCarriage c x).rates = s.rates := by cases c <;> rfl
@[simp] theorem State.setCarriage_hangers (c : CarriageId) (x : Carriage) : (s.setCarriage c x).hangers = s.hangers := by cases c <;> rfl
@[simp] theorem State.setCarriage_tagIndex (c : CarriageId) (x : Carriage) : (s.setCarriage c x).tagIndex = s.tagIndex := by cases c <;> rfl
@[simp] theorem State.setCarriage_queue (c : CarriageId) (x : Carriage) : (s.setCarriage c x).queue = s.queue := by cases c <;> rfl
@[simp] theorem State.setCarriage_channels (c : CarriageId) (x : Carriage) : (s.setCarriage c x).channels = s.channels := by cases c <;> rfl
@[simp] theorem State.setCarriage_patterns (c : CarriageId) (x : Carriage) : (s.setCarriage c x).patterns = s.patterns := by cases c <;> rfl
@[simp] theorem State.setCarriage_marks (c : CarriageId) (x : Carriage) : (s.setCarriage c x).marks = s.marks := by cases c <;> rfl
@[simp] theorem State.setCarriage_levels (c : CarriageId) (x : Carriage) : (s.setCarriage c x).levels = s.levels := by cases c <;> rfl
@[simp] theorem State.setCarriage_mask (c : CarriageId) (x : Carriage) : (s.setCarriage c x).mask = s.mask := by cases c <;> rfl
@[simp] theorem State.setCarriage_maskStack (c : CarriageId) (x : Carriage) : (s.setCarriage c x).maskStack = s.maskStack := by cases c <;> rfl
@[simp] theorem State.setCarriage_params (c : CarriageId) (x : Carriage) : (s.setCarriage c x).params = s.params := by cases c <;> rfl
@[simp] theorem State.setCarriage_buffer (c : CarriageId) (x : Carriage) : (s.setCarriage c x).buffer = s.buffer := by cases c <;> rfl
@[simp] theorem State.setCarriage_sequence (c : CarriageId) (x : Carriage) : (s.setCarriage c x).sequence = s.sequence := by cases c <;> rfl
@[simp] theorem State.setCarriage_bankPointer (c : CarriageId) (x : Carriage) : (s.setCarriage c x).bankPointer = s.bankPointer := by cases c <;> rfl
@[simp] theorem State.setCarriage_openFrame (c : CarriageId) (x : Carriage) : (s.setCarriage c x).openFrame = s.openFrame := by cases c <;> rfl
@[simp] theorem State.setCarriage_receivers (c : CarriageId) (x : Carriage) : (s.setCarriage c x).receivers = s.receivers := by cases c <;> rfl
@[simp] theorem State.setCarriage_sent (c : CarriageId) (x : Carriage) : (s.setCarriage c x).sent = s.sent := by cases c <;> rfl
@[simp] theorem State.setCarriage_shifted (c : CarriageId) (x : Carriage) : (s.setCarriage c x).shifted = s.shifted := by cases c <;> rfl
@[simp] theorem State.setCarriage_due (c : CarriageId) (x : Carriage) : (s.setCarriage c x).due = s.due := by cases c <;> rfl
@[simp] theorem State.setCarriage_draws (c : CarriageId) (x : Carriage) : (s.setCarriage c x).draws = s.draws := by cases c <;> rfl
@[simp] theorem State.setCarriage_pending (c : CarriageId) (x : Carriage) : (s.setCarriage c x).pending = s.pending := by cases c <;> rfl

/-! ### mark -/

@[simp] theorem State.mark_prescaler (k : Kind) (n : Nat) : (s.mark k n).prescaler = s.prescaler := rfl
@[simp] theorem State.mark_beat (k : Kind) (n : Nat) : (s.mark k n).beat = s.beat := rfl
@[simp] theorem State.mark_lineState (k : Kind) (n : Nat) : (s.mark k n).lineState = s.lineState := rfl
@[simp] theorem State.mark_stopActive (k : Kind) (n : Nat) : (s.mark k n).stopActive = s.stopActive := rfl
@[simp] theorem State.mark_stations (k : Kind) (n : Nat) : (s.mark k n).stations = s.stations := rfl
@[simp] theorem State.mark_banks (k : Kind) (n : Nat) : (s.mark k n).banks = s.banks := rfl
@[simp] theorem State.mark_loadArea (k : Kind) (n : Nat) : (s.mark k n).loadArea = s.loadArea := rfl
@[simp] theorem State.mark_rates (k : Kind) (n : Nat) : (s.mark k n).rates = s.rates := rfl
@[simp] theorem State.mark_hangers (k : Kind) (n : Nat) : (s.mark k n).hangers = s.hangers := rfl
@[simp] theorem State.mark_tagIndex (k : Kind) (n : Nat) : (s.mark k n).tagIndex = s.tagIndex := rfl
@[simp] theorem State.mark_queue (k : Kind) (n : Nat) : (s.mark k n).queue = s.queue := rfl
@[simp] theorem State.mark_carriage1 (k : Kind) (n : Nat) : (s.mark k n).carriage1 = s.carriage1 := rfl
@[simp] theorem State.mark_carriage2 (k : Kind) (n : Nat) : (s.mark k n).carriage2 = s.carriage2 := rfl
@[simp] theorem State.mark_channels (k : Kind) (n : Nat) : (s.mark k n).channels = s.channels := rfl
@[simp] theorem State.mark_patterns (k : Kind) (n : Nat) : (s.mark k n).patterns = s.patterns := rfl
@[simp] theorem State.mark_marks (k : Kind) (n : Nat) : (s.mark k n).marks = s.marks.set k.number.val (insertSubject n (s.marked k)) := rfl
@[simp] theorem State.mark_levels (k : Kind) (n : Nat) : (s.mark k n).levels = s.levels := rfl
@[simp] theorem State.mark_mask (k : Kind) (n : Nat) : (s.mark k n).mask = s.mask := rfl
@[simp] theorem State.mark_maskStack (k : Kind) (n : Nat) : (s.mark k n).maskStack = s.maskStack := rfl
@[simp] theorem State.mark_params (k : Kind) (n : Nat) : (s.mark k n).params = s.params := rfl
@[simp] theorem State.mark_buffer (k : Kind) (n : Nat) : (s.mark k n).buffer = s.buffer := rfl
@[simp] theorem State.mark_sequence (k : Kind) (n : Nat) : (s.mark k n).sequence = s.sequence := rfl
@[simp] theorem State.mark_bankPointer (k : Kind) (n : Nat) : (s.mark k n).bankPointer = s.bankPointer := rfl
@[simp] theorem State.mark_openFrame (k : Kind) (n : Nat) : (s.mark k n).openFrame = s.openFrame := rfl
@[simp] theorem State.mark_receivers (k : Kind) (n : Nat) : (s.mark k n).receivers = s.receivers := rfl
@[simp] theorem State.mark_sent (k : Kind) (n : Nat) : (s.mark k n).sent = s.sent := rfl
@[simp] theorem State.mark_shifted (k : Kind) (n : Nat) : (s.mark k n).shifted = s.shifted := rfl
@[simp] theorem State.mark_due (k : Kind) (n : Nat) : (s.mark k n).due = s.due := rfl
@[simp] theorem State.mark_draws (k : Kind) (n : Nat) : (s.mark k n).draws = s.draws := rfl
@[simp] theorem State.mark_pending (k : Kind) (n : Nat) : (s.mark k n).pending = s.pending := rfl

/-! ### unmark -/

@[simp] theorem State.unmark_prescaler (k : Kind) (n : Nat) : (s.unmark k n).prescaler = s.prescaler := rfl
@[simp] theorem State.unmark_beat (k : Kind) (n : Nat) : (s.unmark k n).beat = s.beat := rfl
@[simp] theorem State.unmark_lineState (k : Kind) (n : Nat) : (s.unmark k n).lineState = s.lineState := rfl
@[simp] theorem State.unmark_stopActive (k : Kind) (n : Nat) : (s.unmark k n).stopActive = s.stopActive := rfl
@[simp] theorem State.unmark_stations (k : Kind) (n : Nat) : (s.unmark k n).stations = s.stations := rfl
@[simp] theorem State.unmark_banks (k : Kind) (n : Nat) : (s.unmark k n).banks = s.banks := rfl
@[simp] theorem State.unmark_loadArea (k : Kind) (n : Nat) : (s.unmark k n).loadArea = s.loadArea := rfl
@[simp] theorem State.unmark_rates (k : Kind) (n : Nat) : (s.unmark k n).rates = s.rates := rfl
@[simp] theorem State.unmark_hangers (k : Kind) (n : Nat) : (s.unmark k n).hangers = s.hangers := rfl
@[simp] theorem State.unmark_tagIndex (k : Kind) (n : Nat) : (s.unmark k n).tagIndex = s.tagIndex := rfl
@[simp] theorem State.unmark_queue (k : Kind) (n : Nat) : (s.unmark k n).queue = s.queue := rfl
@[simp] theorem State.unmark_carriage1 (k : Kind) (n : Nat) : (s.unmark k n).carriage1 = s.carriage1 := rfl
@[simp] theorem State.unmark_carriage2 (k : Kind) (n : Nat) : (s.unmark k n).carriage2 = s.carriage2 := rfl
@[simp] theorem State.unmark_channels (k : Kind) (n : Nat) : (s.unmark k n).channels = s.channels := rfl
@[simp] theorem State.unmark_patterns (k : Kind) (n : Nat) : (s.unmark k n).patterns = s.patterns := rfl
@[simp] theorem State.unmark_marks (k : Kind) (n : Nat) : (s.unmark k n).marks = s.marks.set k.number.val ((s.marked k).filter fun x => x != n) := rfl
@[simp] theorem State.unmark_levels (k : Kind) (n : Nat) : (s.unmark k n).levels = s.levels := rfl
@[simp] theorem State.unmark_mask (k : Kind) (n : Nat) : (s.unmark k n).mask = s.mask := rfl
@[simp] theorem State.unmark_maskStack (k : Kind) (n : Nat) : (s.unmark k n).maskStack = s.maskStack := rfl
@[simp] theorem State.unmark_params (k : Kind) (n : Nat) : (s.unmark k n).params = s.params := rfl
@[simp] theorem State.unmark_buffer (k : Kind) (n : Nat) : (s.unmark k n).buffer = s.buffer := rfl
@[simp] theorem State.unmark_sequence (k : Kind) (n : Nat) : (s.unmark k n).sequence = s.sequence := rfl
@[simp] theorem State.unmark_bankPointer (k : Kind) (n : Nat) : (s.unmark k n).bankPointer = s.bankPointer := rfl
@[simp] theorem State.unmark_openFrame (k : Kind) (n : Nat) : (s.unmark k n).openFrame = s.openFrame := rfl
@[simp] theorem State.unmark_receivers (k : Kind) (n : Nat) : (s.unmark k n).receivers = s.receivers := rfl
@[simp] theorem State.unmark_sent (k : Kind) (n : Nat) : (s.unmark k n).sent = s.sent := rfl
@[simp] theorem State.unmark_shifted (k : Kind) (n : Nat) : (s.unmark k n).shifted = s.shifted := rfl
@[simp] theorem State.unmark_due (k : Kind) (n : Nat) : (s.unmark k n).due = s.due := rfl
@[simp] theorem State.unmark_draws (k : Kind) (n : Nat) : (s.unmark k n).draws = s.draws := rfl
@[simp] theorem State.unmark_pending (k : Kind) (n : Nat) : (s.unmark k n).pending = s.pending := rfl

/-! ### begin -/

@[simp] theorem State.begin_prescaler : (s.begin).prescaler = s.prescaler := rfl
@[simp] theorem State.begin_beat : (s.begin).beat = s.beat := rfl
@[simp] theorem State.begin_lineState : (s.begin).lineState = s.lineState := rfl
@[simp] theorem State.begin_stopActive : (s.begin).stopActive = s.stopActive := rfl
@[simp] theorem State.begin_stations : (s.begin).stations = s.stations := rfl
@[simp] theorem State.begin_banks : (s.begin).banks = s.banks := rfl
@[simp] theorem State.begin_loadArea : (s.begin).loadArea = s.loadArea := rfl
@[simp] theorem State.begin_rates : (s.begin).rates = s.rates := rfl
@[simp] theorem State.begin_hangers : (s.begin).hangers = s.hangers := rfl
@[simp] theorem State.begin_tagIndex : (s.begin).tagIndex = s.tagIndex := rfl
@[simp] theorem State.begin_queue : (s.begin).queue = s.queue := rfl
@[simp] theorem State.begin_carriage1 : (s.begin).carriage1 = s.carriage1 := rfl
@[simp] theorem State.begin_carriage2 : (s.begin).carriage2 = s.carriage2 := rfl
@[simp] theorem State.begin_channels : (s.begin).channels = s.channels := rfl
@[simp] theorem State.begin_patterns : (s.begin).patterns = s.patterns := rfl
@[simp] theorem State.begin_marks : (s.begin).marks = s.marks := rfl
@[simp] theorem State.begin_levels : (s.begin).levels = s.levels := rfl
@[simp] theorem State.begin_mask : (s.begin).mask = s.mask := rfl
@[simp] theorem State.begin_maskStack : (s.begin).maskStack = s.maskStack := rfl
@[simp] theorem State.begin_params : (s.begin).params = s.params := rfl
@[simp] theorem State.begin_buffer : (s.begin).buffer = s.buffer := rfl
@[simp] theorem State.begin_sequence : (s.begin).sequence = s.sequence := rfl
@[simp] theorem State.begin_bankPointer : (s.begin).bankPointer = s.bankPointer := rfl
@[simp] theorem State.begin_openFrame : (s.begin).openFrame = s.openFrame := rfl
@[simp] theorem State.begin_receivers : (s.begin).receivers = s.receivers := rfl
@[simp] theorem State.begin_sent : (s.begin).sent = [] := rfl
@[simp] theorem State.begin_shifted : (s.begin).shifted = s.shifted := rfl
@[simp] theorem State.begin_due : (s.begin).due = s.due := rfl
@[simp] theorem State.begin_draws : (s.begin).draws = s.draws := rfl
@[simp] theorem State.begin_pending : (s.begin).pending = s.pending := rfl

/-! ### received -/

@[simp] theorem State.received_prescaler (line : SerialLine) : (s.received line).prescaler = s.prescaler := rfl
@[simp] theorem State.received_beat (line : SerialLine) : (s.received line).beat = s.beat := rfl
@[simp] theorem State.received_lineState (line : SerialLine) : (s.received line).lineState = s.lineState := rfl
@[simp] theorem State.received_stopActive (line : SerialLine) : (s.received line).stopActive = s.stopActive := rfl
@[simp] theorem State.received_stations (line : SerialLine) : (s.received line).stations = s.stations := rfl
@[simp] theorem State.received_banks (line : SerialLine) : (s.received line).banks = s.banks := rfl
@[simp] theorem State.received_loadArea (line : SerialLine) : (s.received line).loadArea = s.loadArea := rfl
@[simp] theorem State.received_rates (line : SerialLine) : (s.received line).rates = s.rates := rfl
@[simp] theorem State.received_hangers (line : SerialLine) : (s.received line).hangers = s.hangers := rfl
@[simp] theorem State.received_tagIndex (line : SerialLine) : (s.received line).tagIndex = s.tagIndex := rfl
@[simp] theorem State.received_queue (line : SerialLine) : (s.received line).queue = s.queue := rfl
@[simp] theorem State.received_carriage1 (line : SerialLine) : (s.received line).carriage1 = s.carriage1 := rfl
@[simp] theorem State.received_carriage2 (line : SerialLine) : (s.received line).carriage2 = s.carriage2 := rfl
@[simp] theorem State.received_channels (line : SerialLine) : (s.received line).channels = s.channels := rfl
@[simp] theorem State.received_patterns (line : SerialLine) : (s.received line).patterns = s.patterns := rfl
@[simp] theorem State.received_marks (line : SerialLine) : (s.received line).marks = s.marks := rfl
@[simp] theorem State.received_levels (line : SerialLine) : (s.received line).levels = s.levels := rfl
@[simp] theorem State.received_mask (line : SerialLine) : (s.received line).mask = s.mask := rfl
@[simp] theorem State.received_maskStack (line : SerialLine) : (s.received line).maskStack = s.maskStack := rfl
@[simp] theorem State.received_params (line : SerialLine) : (s.received line).params = s.params := rfl
@[simp] theorem State.received_buffer (line : SerialLine) : (s.received line).buffer = s.buffer := rfl
@[simp] theorem State.received_sequence (line : SerialLine) : (s.received line).sequence = s.sequence := rfl
@[simp] theorem State.received_bankPointer (line : SerialLine) : (s.received line).bankPointer = s.bankPointer := rfl
@[simp] theorem State.received_openFrame (line : SerialLine) : (s.received line).openFrame = s.openFrame := rfl
@[simp] theorem State.received_receivers (line : SerialLine) : (s.received line).receivers = s.receivers.await line := rfl
@[simp] theorem State.received_sent (line : SerialLine) : (s.received line).sent = s.sent := rfl
@[simp] theorem State.received_shifted (line : SerialLine) : (s.received line).shifted = s.shifted := rfl
@[simp] theorem State.received_due (line : SerialLine) : (s.received line).due = s.due := rfl
@[simp] theorem State.received_draws (line : SerialLine) : (s.received line).draws = s.draws := rfl
@[simp] theorem State.received_pending (line : SerialLine) : (s.received line).pending = s.pending := rfl

/-! ### answer -/

@[simp] theorem State.answer_prescaler (code : Byte) (d : Bool) (r : Result) (w : Option Reason) (n : Nat) (l : List Byte) : (s.answer code d r w n l).prescaler = s.prescaler := rfl
@[simp] theorem State.answer_beat (code : Byte) (d : Bool) (r : Result) (w : Option Reason) (n : Nat) (l : List Byte) : (s.answer code d r w n l).beat = s.beat := rfl
@[simp] theorem State.answer_lineState (code : Byte) (d : Bool) (r : Result) (w : Option Reason) (n : Nat) (l : List Byte) : (s.answer code d r w n l).lineState = s.lineState := rfl
@[simp] theorem State.answer_stopActive (code : Byte) (d : Bool) (r : Result) (w : Option Reason) (n : Nat) (l : List Byte) : (s.answer code d r w n l).stopActive = s.stopActive := rfl
@[simp] theorem State.answer_stations (code : Byte) (d : Bool) (r : Result) (w : Option Reason) (n : Nat) (l : List Byte) : (s.answer code d r w n l).stations = s.stations := rfl
@[simp] theorem State.answer_banks (code : Byte) (d : Bool) (r : Result) (w : Option Reason) (n : Nat) (l : List Byte) : (s.answer code d r w n l).banks = s.banks := rfl
@[simp] theorem State.answer_loadArea (code : Byte) (d : Bool) (r : Result) (w : Option Reason) (n : Nat) (l : List Byte) : (s.answer code d r w n l).loadArea = s.loadArea := rfl
@[simp] theorem State.answer_rates (code : Byte) (d : Bool) (r : Result) (w : Option Reason) (n : Nat) (l : List Byte) : (s.answer code d r w n l).rates = s.rates := rfl
@[simp] theorem State.answer_hangers (code : Byte) (d : Bool) (r : Result) (w : Option Reason) (n : Nat) (l : List Byte) : (s.answer code d r w n l).hangers = s.hangers := rfl
@[simp] theorem State.answer_tagIndex (code : Byte) (d : Bool) (r : Result) (w : Option Reason) (n : Nat) (l : List Byte) : (s.answer code d r w n l).tagIndex = s.tagIndex := rfl
@[simp] theorem State.answer_queue (code : Byte) (d : Bool) (r : Result) (w : Option Reason) (n : Nat) (l : List Byte) : (s.answer code d r w n l).queue = s.queue := rfl
@[simp] theorem State.answer_carriage1 (code : Byte) (d : Bool) (r : Result) (w : Option Reason) (n : Nat) (l : List Byte) : (s.answer code d r w n l).carriage1 = s.carriage1 := rfl
@[simp] theorem State.answer_carriage2 (code : Byte) (d : Bool) (r : Result) (w : Option Reason) (n : Nat) (l : List Byte) : (s.answer code d r w n l).carriage2 = s.carriage2 := rfl
@[simp] theorem State.answer_channels (code : Byte) (d : Bool) (r : Result) (w : Option Reason) (n : Nat) (l : List Byte) : (s.answer code d r w n l).channels = s.channels := rfl
@[simp] theorem State.answer_patterns (code : Byte) (d : Bool) (r : Result) (w : Option Reason) (n : Nat) (l : List Byte) : (s.answer code d r w n l).patterns = s.patterns := rfl
@[simp] theorem State.answer_marks (code : Byte) (d : Bool) (r : Result) (w : Option Reason) (n : Nat) (l : List Byte) : (s.answer code d r w n l).marks = s.marks := rfl
@[simp] theorem State.answer_levels (code : Byte) (d : Bool) (r : Result) (w : Option Reason) (n : Nat) (l : List Byte) : (s.answer code d r w n l).levels = s.levels := rfl
@[simp] theorem State.answer_mask (code : Byte) (d : Bool) (r : Result) (w : Option Reason) (n : Nat) (l : List Byte) : (s.answer code d r w n l).mask = s.mask := rfl
@[simp] theorem State.answer_maskStack (code : Byte) (d : Bool) (r : Result) (w : Option Reason) (n : Nat) (l : List Byte) : (s.answer code d r w n l).maskStack = s.maskStack := rfl
@[simp] theorem State.answer_params (code : Byte) (d : Bool) (r : Result) (w : Option Reason) (n : Nat) (l : List Byte) : (s.answer code d r w n l).params = s.params := rfl
@[simp] theorem State.answer_sequence (code : Byte) (d : Bool) (r : Result) (w : Option Reason) (n : Nat) (l : List Byte) : (s.answer code d r w n l).sequence = s.sequence := rfl
@[simp] theorem State.answer_bankPointer (code : Byte) (d : Bool) (r : Result) (w : Option Reason) (n : Nat) (l : List Byte) : (s.answer code d r w n l).bankPointer = s.bankPointer := rfl
@[simp] theorem State.answer_openFrame (code : Byte) (d : Bool) (r : Result) (w : Option Reason) (n : Nat) (l : List Byte) : (s.answer code d r w n l).openFrame = s.openFrame := rfl
@[simp] theorem State.answer_receivers (code : Byte) (d : Bool) (r : Result) (w : Option Reason) (n : Nat) (l : List Byte) : (s.answer code d r w n l).receivers = s.receivers := rfl
@[simp] theorem State.answer_sent (code : Byte) (d : Bool) (r : Result) (w : Option Reason) (n : Nat) (l : List Byte) : (s.answer code d r w n l).sent = s.sent := rfl
@[simp] theorem State.answer_shifted (code : Byte) (d : Bool) (r : Result) (w : Option Reason) (n : Nat) (l : List Byte) : (s.answer code d r w n l).shifted = s.shifted := rfl
@[simp] theorem State.answer_due (code : Byte) (d : Bool) (r : Result) (w : Option Reason) (n : Nat) (l : List Byte) : (s.answer code d r w n l).due = s.due := rfl
@[simp] theorem State.answer_draws (code : Byte) (d : Bool) (r : Result) (w : Option Reason) (n : Nat) (l : List Byte) : (s.answer code d r w n l).draws = s.draws := rfl
@[simp] theorem State.answer_pending (code : Byte) (d : Bool) (r : Result) (w : Option Reason) (n : Nat) (l : List Byte) : (s.answer code d r w n l).pending = s.pending := rfl

/-! ### sendOrder -/

@[simp] theorem State.sendOrder_prescaler (c : CarriageId) (o : Order) : (s.sendOrder c o).prescaler = s.prescaler := by cases c <;> rfl
@[simp] theorem State.sendOrder_beat (c : CarriageId) (o : Order) : (s.sendOrder c o).beat = s.beat := by cases c <;> rfl
@[simp] theorem State.sendOrder_lineState (c : CarriageId) (o : Order) : (s.sendOrder c o).lineState = s.lineState := by cases c <;> rfl
@[simp] theorem State.sendOrder_stopActive (c : CarriageId) (o : Order) : (s.sendOrder c o).stopActive = s.stopActive := by cases c <;> rfl
@[simp] theorem State.sendOrder_stations (c : CarriageId) (o : Order) : (s.sendOrder c o).stations = s.stations := by cases c <;> rfl
@[simp] theorem State.sendOrder_banks (c : CarriageId) (o : Order) : (s.sendOrder c o).banks = s.banks := by cases c <;> rfl
@[simp] theorem State.sendOrder_loadArea (c : CarriageId) (o : Order) : (s.sendOrder c o).loadArea = s.loadArea := by cases c <;> rfl
@[simp] theorem State.sendOrder_rates (c : CarriageId) (o : Order) : (s.sendOrder c o).rates = s.rates := by cases c <;> rfl
@[simp] theorem State.sendOrder_hangers (c : CarriageId) (o : Order) : (s.sendOrder c o).hangers = s.hangers := by cases c <;> rfl
@[simp] theorem State.sendOrder_tagIndex (c : CarriageId) (o : Order) : (s.sendOrder c o).tagIndex = s.tagIndex := by cases c <;> rfl
@[simp] theorem State.sendOrder_queue (c : CarriageId) (o : Order) : (s.sendOrder c o).queue = s.queue := by cases c <;> rfl
@[simp] theorem State.sendOrder_channels (c : CarriageId) (o : Order) : (s.sendOrder c o).channels = s.channels := by cases c <;> rfl
@[simp] theorem State.sendOrder_patterns (c : CarriageId) (o : Order) : (s.sendOrder c o).patterns = s.patterns := by cases c <;> rfl
@[simp] theorem State.sendOrder_marks (c : CarriageId) (o : Order) : (s.sendOrder c o).marks = s.marks := by cases c <;> rfl
@[simp] theorem State.sendOrder_levels (c : CarriageId) (o : Order) : (s.sendOrder c o).levels = s.levels := by cases c <;> rfl
@[simp] theorem State.sendOrder_mask (c : CarriageId) (o : Order) : (s.sendOrder c o).mask = s.mask := by cases c <;> rfl
@[simp] theorem State.sendOrder_maskStack (c : CarriageId) (o : Order) : (s.sendOrder c o).maskStack = s.maskStack := by cases c <;> rfl
@[simp] theorem State.sendOrder_params (c : CarriageId) (o : Order) : (s.sendOrder c o).params = s.params := by cases c <;> rfl
@[simp] theorem State.sendOrder_buffer (c : CarriageId) (o : Order) : (s.sendOrder c o).buffer = s.buffer := by cases c <;> rfl
@[simp] theorem State.sendOrder_sequence (c : CarriageId) (o : Order) : (s.sendOrder c o).sequence = s.sequence := by cases c <;> rfl
@[simp] theorem State.sendOrder_bankPointer (c : CarriageId) (o : Order) : (s.sendOrder c o).bankPointer = s.bankPointer := by cases c <;> rfl
@[simp] theorem State.sendOrder_openFrame (c : CarriageId) (o : Order) : (s.sendOrder c o).openFrame = s.openFrame := by cases c <;> rfl
@[simp] theorem State.sendOrder_receivers (c : CarriageId) (o : Order) : (s.sendOrder c o).receivers = s.receivers := by cases c <;> rfl
@[simp] theorem State.sendOrder_sent (c : CarriageId) (o : Order) : (s.sendOrder c o).sent = s.sent ++ [(c, o)] := by cases c <;> rfl
@[simp] theorem State.sendOrder_shifted (c : CarriageId) (o : Order) : (s.sendOrder c o).shifted = s.shifted := by cases c <;> rfl
@[simp] theorem State.sendOrder_due (c : CarriageId) (o : Order) : (s.sendOrder c o).due = s.due := by cases c <;> rfl
@[simp] theorem State.sendOrder_draws (c : CarriageId) (o : Order) : (s.sendOrder c o).draws = s.draws := by cases c <;> rfl
@[simp] theorem State.sendOrder_pending (c : CarriageId) (o : Order) : (s.sendOrder c o).pending = s.pending := by cases c <;> rfl

/-! ### carriages -/

@[simp] theorem State.carriage_one : s.carriage .one = s.carriage1 := rfl
@[simp] theorem State.carriage_two : s.carriage .two = s.carriage2 := rfl
@[simp] theorem State.setCarriage_one (x : Carriage) : (s.setCarriage .one x).carriage1 = x := rfl
@[simp] theorem State.setCarriage_one_other (x : Carriage) : (s.setCarriage .one x).carriage2 = s.carriage2 := rfl
@[simp] theorem State.setCarriage_two (x : Carriage) : (s.setCarriage .two x).carriage2 = x := rfl
@[simp] theorem State.setCarriage_two_other (x : Carriage) : (s.setCarriage .two x).carriage1 = s.carriage1 := rfl
@[simp] theorem State.setCarriage_same (c : CarriageId) (x : Carriage) : (s.setCarriage c x).carriage c = x := by
  cases c <;> rfl
@[simp] theorem State.setCarriage_apart (c : CarriageId) (x : Carriage) :
    (s.setCarriage c x).carriage (otherCarriage c) = s.carriage (otherCarriage c) := by
  cases c <;> rfl
@[simp] theorem State.setCarriage_self (c : CarriageId) : s.setCarriage c (s.carriage c) = s := by
  cases c <;> rfl

/-! ### one element of a table -/

theorem State.setStation_get (st i : StationNo) (x : Station) :
    (s.setStation st x).stations[i] = if i = st then x else s.stations[i] := by
  simp only [State.setStation_stations, Fin.getElem_fin, Vector.getElem_set, Fin.ext_iff, eq_comm]

theorem State.setHanger_get (slot i : Slot) (x : Option Hanger) :
    (s.setHanger slot x).hangers[i] = if i = slot then x else s.hangers[i] := by
  simp only [State.setHanger_hangers, Fin.getElem_fin, Vector.getElem_set, Fin.ext_iff, eq_comm]

theorem State.setChannel_get (ch i : ChannelNo) (x : Channel) :
    (s.setChannel ch x).channels[i] = if i = ch then x else s.channels[i] := by
  simp only [State.setChannel_channels, Fin.getElem_fin, Vector.getElem_set, Fin.ext_iff, eq_comm]

theorem State.setBank_get (b i : BankNo) (x : Bank) :
    (s.setBank b x).banks[i] = if i = b then x else s.banks[i] := by
  simp only [State.setBank_banks, Fin.getElem_fin, Vector.getElem_set, Fin.ext_iff, eq_comm]

/-! ### the settings -/

@[simp] theorem State.setStation_settings (st : StationNo) (x : Station) : (s.setStation st x).settings = s.settings := rfl
@[simp] theorem State.setHanger_settings (slot : Slot) (x : Option Hanger) : (s.setHanger slot x).settings = s.settings := rfl
@[simp] theorem State.setChannel_settings (ch : ChannelNo) (x : Channel) : (s.setChannel ch x).settings = s.settings := rfl
@[simp] theorem State.setCarriage_settings (c : CarriageId) (x : Carriage) : (s.setCarriage c x).settings = s.settings := by cases c <;> rfl
@[simp] theorem State.mark_settings (k : Kind) (n : Nat) : (s.mark k n).settings = s.settings := rfl
@[simp] theorem State.unmark_settings (k : Kind) (n : Nat) : (s.unmark k n).settings = s.settings := rfl
@[simp] theorem State.begin_settings : (s.begin).settings = s.settings := rfl
@[simp] theorem State.sendOrder_settings (c : CarriageId) (o : Order) : (s.sendOrder c o).settings = s.settings := by cases c <;> rfl

end Sys2Proof.Machine
end

