-- ==== Sys2Proof/Laws/Moves.lean ====
section
/-! SUPPORT. What the movement of hangers and carriages can do, said once: `LineMove` is closed under the elementary writes that the
line's operations make, every operation is shown to be such a movement, and what a movement leaves unchanged follows for all of
them. -/

namespace Sys2Proof.Machine

/-- The fields a stay in a bay keeps: all but state, held flag, places, overshoot, the noted flag and the fault reason. -/
def Hanger.sameStay (h h' : Hanger) : Prop :=
  ∃ st hd p d o n f, h' = { h with
    state := st, held := hd, position := p, destination := d, overshoot := o, overstayNoted := n, faultReason := f }

/-- The fields that the life of a record keeps (R34, R35). -/
def Hanger.sameIdentity (h h' : Hanger) : Prop :=
  h'.tag = h.tag ∧ h'.bank = h.bank ∧ h'.push = h.push ∧ h'.area = h.area

/-- Only bays and phase origin of a station differ. -/
def Station.sameTank (x x' : Station) : Prop := ∃ b o, x' = { x with bays := b, phaseOrigin := o }

/-- The elementary writes of the line's operations, and their sequences: `R` says how a record may change, `S` how a station may. -/
inductive LineMove (R : Hanger → Hanger → Prop) (S : Station → Station → Prop) : State → State → Prop where
  | refl (s : State) : LineMove R S s s
  | trans {s t u : State} : LineMove R S s t → LineMove R S t u → LineMove R S s u
  | record (s : State) (slot : Slot) (h h' : Hanger) : s.hangers[slot] = some h → R h h' → LineMove R S s (s.putHanger slot h')
  | station (s : State) (st : StationNo) (x : Station) : S s.stations[st] x → LineMove R S s (s.setStation st x)
  | mark (s : State) (k : Kind) (n : Nat) : LineMove R S s (s.mark k n)
  | unmark (s : State) (k : Kind) (n : Nat) : LineMove R S s (s.unmark k n)
  | silence (s : State) (ch : ChannelNo) : LineMove R S s (s.silenceAuto ch)
  | carriage (s : State) (c : CarriageId) (x : Carriage) : LineMove R S s (s.setCarriage c x)
  | sent (s : State) (l : List (CarriageId × Order)) : LineMove R S s { s with sent := l }
  | queue (s : State) (q : List Request) : LineMove R S s { s with queue := q }

/-! ### what a movement leaves unchanged -/

@[simp] theorem State.putHanger_settings (s : State) (slot : Slot) (h : Hanger) :
    (s.putHanger slot h).settings = s.settings := by
  unfold State.putHanger
  split
  · split <;> rfl
  · rfl

theorem State.putHanger_hangers (s : State) (slot : Slot) (h : Hanger) :
    (s.putHanger slot h).hangers = s.hangers.set slot.val (some h) := by
  unfold State.putHanger
  split
  · split <;> rfl
  · rfl

theorem State.putHanger_stations (s : State) (slot : Slot) (h : Hanger) : (s.putHanger slot h).stations = s.stations := by
  unfold State.putHanger
  split
  · split <;> rfl
  · rfl

theorem State.putHanger_channels (s : State) (slot : Slot) (h : Hanger) : (s.putHanger slot h).channels = s.channels := by
  unfold State.putHanger
  split
  · split <;> rfl
  · rfl

theorem State.putHanger_carriage (s : State) (slot : Slot) (h : Hanger) (c : CarriageId) :
    (s.putHanger slot h).carriage c = s.carriage c := by
  unfold State.putHanger
  cases c <;> (split <;> [split; skip]) <;> rfl

theorem State.putHanger_get (s : State) (slot i : Slot) (h : Hanger) :
    (s.putHanger slot h).hangers[i] = if i = slot then some h else s.hangers[i] := by
  simp only [State.putHanger_hangers, Fin.getElem_fin, Vector.getElem_set, Fin.ext_iff, eq_comm]

@[simp] theorem State.silenceAuto_settings (s : State) (ch : ChannelNo) : (s.silenceAuto ch).settings = s.settings := by
  unfold State.silenceAuto
  split <;> rfl

theorem State.silenceAuto_hangers (s : State) (ch : ChannelNo) : (s.silenceAuto ch).hangers = s.hangers := by
  unfold State.silenceAuto
  split <;> rfl

theorem State.silenceAuto_stations (s : State) (ch : ChannelNo) : (s.silenceAuto ch).stations = s.stations := by
  unfold State.silenceAuto
  split <;> rfl

/-- Silencing a channel keeps its mode and enable, and can only turn a latch and a staged value off. -/
theorem State.silenceAuto_get (s : State) (ch i : ChannelNo) :
    (s.silenceAuto ch).channels[i] = s.channels[i] ∨
      (s.silenceAuto ch).channels[i] = { s.channels[i] with staged := false, latch := false } := by
  unfold State.silenceAuto
  split
  · rw [State.setChannel_get]
    split
    · rename_i h
      subst h
      exact .inr rfl
    · exact .inl rfl
  · exact .inl rfl

section

variable {R : Hanger → Hanger → Prop} {S : Station → Station → Prop} {s t : State}

/-- A movement keeps every setting. -/
theorem LineMove.settings (m : LineMove R S s t) : t.settings = s.settings := by
  induction m with
  | refl => rfl
  | trans _ _ a b => exact b.trans a
  | record => simp
  | station => rfl
  | mark => rfl
  | unmark => rfl
  | silence => simp
  | carriage s c x => simp
  | sent => rfl
  | queue => rfl

/-- A movement changes each live record as `R` allows, and makes and empties no slot. -/
theorem LineMove.record_of (refl : ∀ h, R h h) (trans : ∀ a b c, R a b → R b c → R a c) (m : LineMove R S s t) (slot : Slot) :
    (s.hangers[slot] = none ∧ t.hangers[slot] = none) ∨
      ∃ h h', s.hangers[slot] = some h ∧ t.hangers[slot] = some h' ∧ R h h' := by
  have same : ∀ x : State, (x.hangers[slot] = none ∧ x.hangers[slot] = none) ∨
      ∃ h h', x.hangers[slot] = some h ∧ x.hangers[slot] = some h' ∧ R h h' := fun x => by
    cases hx : x.hangers[slot] with
    | none => exact .inl ⟨rfl, rfl⟩
    | some h => exact .inr ⟨h, h, rfl, rfl, refl h⟩
  induction m with
  | refl s => exact same s
  | trans _ _ a b =>
    rcases a with ⟨a1, a2⟩ | ⟨h, h', a1, a2, a3⟩ <;> rcases b with ⟨b1, b2⟩ | ⟨g, g', b1, b2, b3⟩
    · exact .inl ⟨a1, b2⟩
    · rw [a2] at b1; cases b1
    · rw [a2] at b1; cases b1
    · rw [a2] at b1; cases b1; exact .inr ⟨h, g', a1, b2, trans _ _ _ a3 b3⟩
  | record s i h h' hs r =>
    rw [State.putHanger_get]
    split
    · rename_i e; subst e; exact .inr ⟨h, h', hs, rfl, r⟩
    · exact same s
  | station s => exact same s
  | mark s => exact same s
  | unmark s => exact same s
  | silence s ch => rw [State.silenceAuto_hangers]; exact same s
  | carriage s => rw [State.setCarriage_hangers]; exact same s
  | sent s => exact same s
  | queue s => exact same s

/-- A movement changes each station as `S` allows. -/
theorem LineMove.station_of (refl : ∀ x, S x x) (trans : ∀ a b c, S a b → S b c → S a c) (m : LineMove R S s t)
    (st : StationNo) : S s.stations[st] t.stations[st] := by
  induction m with
  | refl s => exact refl _
  | trans _ _ a b => exact trans _ _ _ a b
  | record s i h h' => rw [State.putHanger_stations]; exact refl _
  | station s i x r =>
    rw [State.setStation_get]
    split
    · rename_i e; subst e; exact r
    · exact refl _
  | mark s => exact refl _
  | unmark s => exact refl _
  | silence s ch => rw [State.silenceAuto_stations]; exact refl _
  | carriage s => rw [State.setCarriage_stations]; exact refl _
  | sent s => exact refl _
  | queue s => exact refl _

/-- A movement leaves each channel as it was, or with staged value and latch off. -/
theorem LineMove.channel_of (m : LineMove R S s t) (ch : ChannelNo) :
    t.channels[ch] = s.channels[ch] ∨ t.channels[ch] = { s.channels[ch] with staged := false, latch := false } := by
  induction m with
  | refl s => exact .inl rfl
  | trans _ _ a b => rcases a with a | a <;> rcases b with b | b <;> simp [a, b]
  | record s => rw [State.putHanger_channels]; exact .inl rfl
  | station s => exact .inl rfl
  | mark s => exact .inl rfl
  | unmark s => exact .inl rfl
  | silence s i => exact State.silenceAuto_get s i ch
  | carriage s => rw [State.setCarriage_channels]; exact .inl rfl
  | sent s => exact .inl rfl
  | queue s => exact .inl rfl

/-- A movement keeps the outputs safe. -/
theorem LineMove.outputsSafe (m : LineMove R S s t) (h : s.outputsSafe) : t.outputsSafe := by
  intro ch
  have e : t.stopActive = s.stopActive := congrArg Settings.stopActive m.settings
  rcases m.channel_of ch with c | c <;> rw [c, e]
  · exact h ch
  · exact ⟨fun x => (by simp at x), (h ch).2⟩

end

end Sys2Proof.Machine
end

