-- ==== Sys2Proof/Laws/Line.lean ====
section
/-! SUPPORT. Each operation of the line is a movement (`LineMove`): what it leaves unchanged follows from Laws/Moves.lean. -/

namespace Sys2Proof.Machine

variable {R : Hanger → Hanger → Prop} {S : Station → Station → Prop}

/-- A fold of movements is a movement. -/
theorem LineMove.fold {α : Type} (f : State → α → State) (hf : ∀ s a, LineMove R S s (f s a)) (l : List α) (s : State) :
    LineMove R S s (l.foldl f s) := by
  induction l generalizing s with
  | nil => exact .refl s
  | cons a l ih => exact (hf s a).trans (ih _)

theorem State.setBay_moves (hS : ∀ x x', Station.sameTank x x' → S x x') (s : State) (d : BayRef) (x : Bay) :
    LineMove R S s (s.setBay d x) :=
  .station s d.station _ (hS _ _ ⟨_, _, rfl⟩)

theorem State.sendOrder_moves (s : State) (c : CarriageId) (o : Order) : LineMove R S s (s.sendOrder c o) :=
  (LineMove.carriage s c _).trans (.sent _ _)

theorem State.advance_moves (s : State) (c : CarriageId) (st : CarriageState) : LineMove R S s (s.advance c st) :=
  .carriage s c _

theorem State.settleUnloadFull_moves (s : State) (was : Bool) : LineMove R S s (s.settleUnloadFull was) := by
  unfold State.settleUnloadFull
  split
  · exact .unmark s _ _
  · exact .refl s

theorem State.silenceHoist_moves (s : State) (j : Job) : LineMove R S s (s.silenceHoist j) := by
  unfold State.silenceHoist
  split
  · exact .silence s _
  · exact .silence s _
  · exact .refl s

section Stays

variable (hR : ∀ h h', Hanger.sameStay h h' → R h h')
include hR

theorem State.liftRecord_moves (s : State) (slot : Slot) : LineMove R S s (s.liftRecord slot) := by
  unfold State.liftRecord
  split
  · exact .refl s
  · rename_i h e
    have m : LineMove R S s (s.putHanger slot (s.liftedHanger h)) :=
      .record s slot h _ e (hR _ _ ⟨_, _, _, _, _, _, _, rfl⟩)
    dsimp only
    split
    · exact m.trans (.mark _ _ _)
    · exact m

theorem State.liftOrder_moves (s : State) (c : CarriageId) : LineMove R S s (s.liftOrder c) := by
  unfold State.liftOrder
  split
  · exact .refl s
  · exact (((State.advance_moves s c _).trans (State.sendOrder_moves _ c _)).trans (State.liftRecord_moves hR _ _)).trans
      (.silence _ _)

omit hR in
theorem State.lowerOrder_moves (s : State) (c : CarriageId) : LineMove R S s (s.lowerOrder c) := by
  unfold State.lowerOrder
  split
  · exact .refl s
  · exact ((State.advance_moves s c _).trans (State.sendOrder_moves _ c _)).trans (.silence _ _)

omit hR in
theorem State.goOn_moves (s : State) (c : CarriageId) : LineMove R S s (s.goOn c) := by
  unfold State.goOn
  split
  · exact .refl s
  · dsimp only
    split
    · exact (LineMove.carriage s c _).trans (State.lowerOrder_moves _ c)
    · exact ((LineMove.carriage s c _).trans (State.advance_moves _ c _)).trans (State.sendOrder_moves _ c _)

theorem State.liftOrAwait_moves (s : State) (c : CarriageId) : LineMove R S s (s.liftOrAwait c) := by
  unfold State.liftOrAwait
  split
  · exact .refl s
  · split
    · exact State.advance_moves s c _
    · exact State.liftOrder_moves hR s c

theorem State.signal_moves (s : State) (slot : Slot) : LineMove R S s (s.signal slot) := by
  have one : ∀ (t : State) c, LineMove R S t (t.signalCarriage slot c) := fun t c => by
    unfold State.signalCarriage
    split
    · exact State.liftOrder_moves hR t c
    · exact .refl t
  exact (one s .one).trans (one _ .two)

theorem State.grant_moves (s : State) (c : CarriageId) (r : Request) (d : BayRef) : LineMove R S s (s.grant c r d) := by
  unfold State.grant
  dsimp only
  split
  · exact ((LineMove.queue s _).trans (.carriage _ c _)).trans (State.liftOrAwait_moves hR _ c)
  · exact ((LineMove.queue s _).trans (.carriage _ c _)).trans (State.sendOrder_moves _ c _)

theorem State.consider_moves (s : State) (r : Request) : LineMove R S s (s.consider r) := by
  unfold State.consider
  split
  · exact .refl s
  · split
    · exact .refl s
    · exact State.grant_moves hR s _ r _

omit hR in
theorem State.yieldCarriage_moves (s : State) (c : CarriageId) : LineMove R S s (s.yieldCarriage c) := by
  unfold State.yieldCarriage
  dsimp only
  split
  · exact .refl s
  · exact (LineMove.carriage s c _).trans (State.sendOrder_moves _ c _)

omit hR in
theorem State.yieldTest_moves (s : State) (c : CarriageId) : LineMove R S s (s.yieldTest c) := by
  unfold State.yieldTest
  split
  · split
    · split
      · split
        · exact .refl s
        · exact State.yieldCarriage_moves s _
      · exact .refl s
    · exact .refl s
  · exact .refl s

/-- All that an arbitration can do. -/
theorem State.arbitrate_moves (s : State) : LineMove R S s s.arbitrate := by
  unfold State.arbitrate
  split
  · exact ((LineMove.fold _ (State.consider_moves hR) _ s).trans (State.yieldTest_moves _ _)).trans
      (State.yieldTest_moves _ _)
  · exact .refl s

theorem State.returnRequest_moves (s : State) (j : Job) : LineMove R S s (s.returnRequest j) :=
  (LineMove.queue s _).trans (State.arbitrate_moves hR _)

omit hR in
theorem State.dropRequest_moves (s : State) (slot : Slot) : LineMove R S s (s.dropRequest slot) := by
  unfold State.dropRequest
  split
  · exact .refl s
  · exact ((LineMove.queue s _).trans (.unmark _ _ _)).trans (State.settleUnloadFull_moves _ _)

theorem State.faultHanger_moves (s : State) (slot : Slot) (f : FaultReason) : LineMove R S s (s.faultHanger slot f) := by
  unfold State.faultHanger
  split
  · exact .refl s
  · rename_i h e
    exact (LineMove.record s slot h _ e (hR _ _ ⟨_, _, _, _, _, _, _, rfl⟩)).trans (.mark _ _ _)

/-- All that the entry of a carriage into FAULT can do. -/
theorem State.faultCarriage_moves (s : State) (c : CarriageId) (code : Nat) (f : FaultReason) :
    LineMove R S s (s.faultCarriage c code f) := by
  have m := (LineMove.carriage (R := R) (S := S) s c ((s.carriage c).faulted code)).trans
    (.mark _ .carriageFault (carriageNumber c))
  unfold State.faultCarriage
  dsimp only
  split
  · exact m
  · split
    · exact m.trans (State.returnRequest_moves hR _ _)
    · exact (m.trans (State.silenceHoist_moves _ _)).trans (State.faultHanger_moves hR _ _ _)

theorem State.expire_moves (s : State) (c : CarriageId) : LineMove R S s (s.expire c) := by
  unfold State.expire
  split
  · exact State.faultCarriage_moves hR s c _ _
  · exact .refl s

omit hR in
theorem State.endDrain_moves (s : State) (c : CarriageId) : LineMove R S s (s.endDrain c) := by
  unfold State.endDrain
  split
  · exact State.goOn_moves s c
  · exact .refl s

variable (hS : ∀ x x', Station.sameTank x x' → S x x')
include hS

theorem State.reserve_moves (s : State) (slot : Slot) (h : Hanger) (d : BayRef) (e : s.hangers[slot] = some h) :
    LineMove R S s (s.reserve slot h d) :=
  (State.setBay_moves hS s d _).trans (.record _ slot h _ e (hR _ _ ⟨_, _, _, _, _, _, _, rfl⟩))

/-- All that lodging a request can do. -/
theorem State.lodge_moves (s : State) (slot : Slot) (cls : RequestClass) (b : Beat) : LineMove R S s (s.lodge slot cls b) := by
  unfold State.lodge
  split
  · exact .refl s
  · rename_i h e
    split
    · exact .refl s
    · split
      · exact ((State.reserve_moves hR hS s slot h _ e).trans (.queue _ _)).trans (State.arbitrate_moves hR _)
      · dsimp only
        split
        · exact ((LineMove.queue s _).trans (.mark _ _ _)).trans (.mark _ _ _)
        · exact (LineMove.queue s _).trans (.mark _ _ _)

/-- All that offering a bay can do. -/
theorem State.offerBay_moves (s : State) (d : BayRef) : LineMove R S s (s.offerBay d) := by
  unfold State.offerBay
  split
  · exact .refl s
  · split
    · exact .refl s
    · split
      · exact .refl s
      · rename_i h e
        exact ((((State.reserve_moves hR hS s _ h _ e).trans (.unmark _ _ _)).trans (.queue _ _)).trans
          (State.settleUnloadFull_moves _ _)).trans (State.arbitrate_moves hR _)

theorem State.releaseBays_moves (s : State) (ds : List BayRef) : LineMove R S s (s.releaseBays ds) :=
  (LineMove.fold _ (fun t d => State.setBay_moves hS t d _) ds s).trans (LineMove.fold _ (State.offerBay_moves hR hS) _ _)

omit hR in
theorem State.occupyBay_moves (s : State) (slot : Slot) (d : BayRef) : LineMove R S s (s.occupyBay slot d) := by
  unfold State.occupyBay
  dsimp only
  split
  · exact State.setBay_moves hS s d _
  · exact (State.setBay_moves hS s d _).trans (.station _ _ _ (hS _ _ ⟨_, _, rfl⟩))

omit hR hS in
theorem State.occupyBay_hangers (s : State) (slot : Slot) (d : BayRef) : (s.occupyBay slot d).hangers = s.hangers := by
  unfold State.occupyBay
  dsimp only
  split <;> rfl

/-- All that the outcome RETURNED can do. -/
theorem State.returnHanger_moves (s : State) (slot : Slot) (d : BayRef) : LineMove R S s (s.returnHanger slot d) := by
  unfold State.returnHanger
  split
  · exact .refl s
  · rename_i h e
    have back : ∀ h', Hanger.sameStay h h' → LineMove R S s (((s.occupyBay slot d).putHanger slot h').releaseBays
        h.destination.toList) := fun h' m =>
      ((State.occupyBay_moves hS s slot d).trans (.record _ slot h h' (by rw [State.occupyBay_hangers]; exact e) (hR _ _ m))).trans
        (State.releaseBays_moves hR hS _ _)
    rcases s.legKind h with _ | _ | _ | _
    · exact (back _ ⟨_, _, _, _, _, _, _, rfl⟩).trans (State.lodge_moves hR hS _ _ _ _)
    · exact (back _ ⟨_, _, _, _, _, _, _, rfl⟩).trans (State.lodge_moves hR hS _ _ _ _)
    · exact back _ ⟨_, _, _, _, _, _, _, rfl⟩
    · exact back _ ⟨_, _, _, _, _, _, _, rfl⟩

end Stays

section Baths

variable (hC : ∀ x : Station, S x x.credited)
include hC

theorem State.creditBath_moves (s : State) (st : StationNo) : LineMove R S s (s.creditBath st) := by
  unfold State.creditBath
  dsimp only
  split
  · exact (LineMove.station s st _ (hC _)).trans (.unmark _ _ _)
  · exact .station s st _ (hC _)

variable (hR : ∀ h h', Hanger.sameStay h h' → R h h')
include hR

theorem State.follow_moves (s : State) (e : FollowUp) : LineMove R S s (s.follow e) := by
  cases e with
  | expiry c => exact State.expire_moves hR s c
  | drain c => exact State.endDrain_moves s c
  | credit st => exact State.creditBath_moves hC s st

/-- All that settling the steps a beat left can do. -/
theorem State.settle_moves (s : State) : LineMove R S { s with due := [] } s.settle :=
  LineMove.fold _ (State.follow_moves hC hR) s.due _

end Baths

section Legs

variable (hG : ∀ (x : Station) (loss area : Nat), S x ((x.charged loss).accumulated area))

include hG in
theorem State.chargeBath_moves (s : State) (st : StationNo) (area : Nat) : LineMove R S s (s.chargeBath st area) := by
  unfold State.chargeBath
  dsimp only
  split
  · have m := LineMove.station (R := R) s st _ (hG s.stations[st] (chargeLoss area s.stations[st].exhaust) area)
    split <;> split
    · exact (m.trans (.mark _ _ _)).trans (.mark _ _ _)
    · exact m.trans (.mark _ _ _)
    · exact m.trans (.mark _ _ _)
    · exact m
  · exact .refl s

variable (hS : ∀ x x', Station.sameTank x x' → S x x')

include hG hS in
/-- All that the beginning of a leg can do. -/
theorem State.beginLeg_moves (hL : ∀ (s : State) h d, R h (s.nextLeg h d)) (s : State) (slot : Slot) :
    LineMove R S s (s.beginLeg slot) := by
  unfold State.beginLeg
  split
  · exact .refl s
  · rename_i h e
    split
    · exact .refl s
    · rename_i d _
      dsimp only
      have m : LineMove R S s ((s.occupyBay slot d).putHanger slot (s.nextLeg h d)) :=
        (State.occupyBay_moves hS s slot d).trans (.record _ slot h _ (by rw [State.occupyBay_hangers]; exact e) (hL s h d))
      split
      · exact (m.trans (.mark _ _ _)).trans (State.chargeBath_moves hG _ _ _)
      · exact m.trans (State.chargeBath_moves hG _ _ _)

include hG hS in
/-- All that the outcome DELIVERED can do. -/
theorem State.deliverHanger_moves (hR : ∀ h h', Hanger.sameStay h h' → R h h') (hL : ∀ (s : State) h d, R h (s.nextLeg h d))
    (s : State) (slot : Slot) (d : BayRef) : LineMove R S s (s.deliverHanger slot d) :=
  (State.beginLeg_moves hG hS hL s slot).trans (State.releaseBays_moves hR hS _ _)

/-- All that the outcome REMOVED can do. -/
theorem State.removeHanger_moves (hR : ∀ h h', Hanger.sameStay h h' → R h h') (hS : ∀ x x', Station.sameTank x x' → S x x')
    (hM : ∀ h : Hanger, R h { h with faultReason := some .removed, destination := none, target := none }) (s : State)
    (slot : Slot) (d : BayRef) : LineMove R S s (s.removeHanger slot d) := by
  unfold State.removeHanger
  split
  · exact .refl s
  · rename_i h e
    exact (LineMove.record s slot h _ e (hM h)).trans (State.releaseBays_moves hR hS _ _)

end Legs

end Sys2Proof.Machine
end

