-- ==== Sys2Proof/Laws/Beat.lean ====
section
/-! SUPPORT. All that a beat can do: a movement from the counted state, then the transfer of the channels and the steps it leaves. -/

namespace Sys2Proof.Machine

variable {R : Hanger → Hanger → Prop} {S : Station → Station → Prop}

section Work

variable (hR : ∀ h h', Hanger.sameStay h h' → R h h') (hS : ∀ x x', Station.sameTank x x' → S x x')
  (hV : ∀ (h : Hanger) n b, R h (h.developed n b)) (hC : ∀ x : Station, S x x.credited)

include hR hS in
/-- The call-point test of a record that stands in its slot is a movement. -/
theorem State.callPoint_moves (s : State) (slot : Slot) (h : Hanger) (n : Nat) (e : s.hangers[slot] = some h) :
    LineMove R S s (s.callPoint slot h n) := by
  unfold State.callPoint
  split
  · exact .refl s
  · split
    · exact (LineMove.record s slot h _ e (hR _ _ ⟨_, _, _, _, _, _, _, rfl⟩)).trans (State.lodge_moves hR hS _ _ _ _)
    · exact .refl s

include hR hS hV in
/-- All that a beat can do with one developing record. -/
theorem State.developSlot_moves (s : State) (slot : Slot) : LineMove R S s (s.developSlot slot) := by
  unfold State.developSlot
  split
  · exact .refl s
  · rename_i h e
    split
    · exact .refl s
    · split
      · dsimp only
        split
        · refine (((LineMove.record s slot h _ e (hV h _ _)).trans (.mark _ _ _)).trans
            (State.callPoint_moves hR hS _ slot _ _ ?_)).trans (State.signal_moves hR _ _)
          rw [State.mark_hangers, State.putHanger_get, if_pos rfl]
        · refine ((LineMove.record s slot h _ e (hV h _ _)).trans
            (State.callPoint_moves hR hS _ slot _ _ ?_)).trans (State.signal_moves hR _ _)
          rw [State.putHanger_get, if_pos rfl]
      · exact .refl s

include hR hS in
/-- All that the minimum-time test of one record can do. -/
theorem State.minimumSlot_moves (s : State) (slot : Slot) : LineMove R S s (s.minimumSlot slot) := by
  unfold State.minimumSlot
  split
  · exact .refl s
  · rename_i h e
    split
    · exact .refl s
    · split
      · exact (LineMove.record s slot h _ e (hR _ _ ⟨_, _, _, _, _, _, _, rfl⟩)).trans (State.lodge_moves hR hS _ _ _ _)
      · exact .refl s

include hR in
/-- All that the overstay test of one record can do. -/
theorem State.overstaySlot_moves (s : State) (slot : Slot) : LineMove R S s (s.overstaySlot slot) := by
  unfold State.overstaySlot
  split
  · exact .refl s
  · rename_i h e
    split
    · exact .refl s
    · split
      · exact (LineMove.record s slot h _ e (hR _ _ ⟨_, _, _, _, _, _, _, rfl⟩)).trans (.mark _ _ _)
      · exact .refl s

include hR hS hV hC in
theorem State.takeTask_moves (s : State) (e : BeatTask) : LineMove R S s (s.takeTask e) := by
  cases e with
  | develop slot => exact State.developSlot_moves hR hS hV s slot
  | minimum slot => exact State.minimumSlot_moves hR hS s slot
  | overstay slot => exact State.overstaySlot_moves hR s slot
  | credit st => exact State.creditBath_moves hC s st

variable (hA : ∀ (x : Station) n, S x (x.aged n)) (hB : ∀ (s : State) st, S s.stations[st] (s.startedStation st))
  (hD : ∀ x : Station, S x x.countedDown)

include hA in
theorem State.ageReadings_moves (s : State) : LineMove R S s s.ageReadings :=
  LineMove.fold _ (fun t st => by
    unfold State.ageStation
    dsimp only
    split
    · exact (LineMove.station t st _ (hA _ _)).trans (.mark _ _ _)
    · exact .station t st _ (hA _ _)) _ s

include hB in
theorem State.startRuns_moves (s : State) : LineMove R S s s.startRuns :=
  LineMove.fold _ (fun t st => .station t st _ (hB t st)) _ s

include hD in
theorem State.countRuns_moves (s : State) : LineMove R S s s.countRuns :=
  LineMove.fold _ (fun t st => .station t st _ (hD _)) _ s

include hR hS hV hC hA hB hD in
/-- All that a beat can do. -/
theorem State.beat_moves (s : State) : ∃ d running l, LineMove R S s.begin.settle.counted d ∧
    s.beatEffect = { d.transfer running with draws := s.draws + 1, due := l } :=
  ⟨_, _, _, (((State.ageReadings_moves hA _).trans (State.startRuns_moves hB _)).trans (State.countRuns_moves hD _)).trans
    (LineMove.fold _ (State.takeTask_moves hR hS hV hC) _ _), rfl⟩

end Work

/-- The channel a transfer leaves: its mode and enable are kept, and its latch is on only where it may be (R136). -/
theorem State.transfer_get (s : State) (running : List PumpNo) (ch : ChannelNo) :
    (s.transfer running).channels[ch] = s.transferred running ch := by
  simp [State.transfer]

end Sys2Proof.Machine
end

