-- ==== Sys2Proof/Laws/Link.lean ====
section
/-! SUPPORT. All that the end of a frame on the Command Link can do: a request frame is taken, dropped or ignored (R160, R161). -/

namespace Sys2Proof.Machine

/-- A reset has abandoned the frame in progress exactly where the state holds it so, with the buffer it began with. -/
theorem State.frameAbandoned_iff (s : State) :
    s.frameAbandoned = true ↔ ∃ begun clocked, s.openFrame = some (.abandoned begun clocked) := by
  unfold State.frameAbandoned
  split <;> simp_all

/-- What the first byte of a frame is, in each of the ways an event may have overtaken it. -/
theorem State.frameHead_eq (s : State) : s.frameHead = match s.openFrame with
    | some (.begunWorking _) => 0x02
    | some (.abandoned begun _) => begun.code
    | none => s.buffer.code := by
  unfold State.frameHead State.begunWith
  cases s.openFrame with
  | none => rfl
  | some f => cases f <;> rfl

/-- A link listens exactly where no reset has abandoned the frame in progress and no response is in assembly. -/
theorem State.listening_iff (s : State) :
    s.listening = true ↔ s.frameAbandoned = false ∧ ∀ r, s.buffer ≠ .working r := by
  unfold State.listening
  cases s.buffer <;> simp

/-- Where the link listens, the frame is taken. -/
theorem State.endFrame_listening (n : Nat) (s taken : State) (h : s.listening = true) : s.endFrame n taken = taken := by
  obtain ⟨kept, idle⟩ := s.listening_iff.1 h
  unfold State.endFrame
  rw [if_neg (by simp [kept])]
  split
  · exact absurd ‹_› (idle _)
  · rfl

/-- While the buffer is WORKING the frame is dropped. -/
theorem State.endFrame_working (n : Nat) (s taken : State) (r : Response) (kept : s.frameAbandoned = false)
    (h : s.buffer = .working r) : s.endFrame n taken = s.dropFrame n r := by
  unfold State.endFrame
  rw [if_neg (by simp [kept]), h]

/-- A request frame that a reset abandoned is ignored. -/
theorem State.endFrame_abandoned (n : Nat) (s taken : State) (h : s.frameAbandoned = true) :
    s.endFrame n taken = s.endAbandoned n := by
  unfold State.endFrame
  rw [if_pos h]

/-- All that the end of a request frame can do. -/
theorem State.endFrame_cases (n : Nat) (s taken : State) :
    (s.listening = true ∧ s.endFrame n taken = taken) ∨
    (s.frameAbandoned = true ∧ s.endFrame n taken = s.endAbandoned n) ∨
    ∃ r, s.frameAbandoned = false ∧ s.buffer = .working r ∧ s.endFrame n taken = s.dropFrame n r := by
  by_cases gone : s.frameAbandoned = true
  · exact .inr (.inl ⟨gone, s.endFrame_abandoned n taken gone⟩)
  · have gone := Bool.eq_false_iff.2 gone
    by_cases work : ∃ r, s.buffer = .working r
    · obtain ⟨r, h⟩ := work
      exact .inr (.inr ⟨r, gone, h, s.endFrame_working n taken r gone h⟩)
    · have hears := s.listening_iff.2 ⟨gone, fun r h => work ⟨r, h⟩⟩
      exact .inl ⟨hears, s.endFrame_listening n taken hears⟩

/-- A command whose frame is taken, with a payload that a frame can carry, answers what its rule makes of the state of the take. -/
theorem State.request_listening (code : Byte) (p : List Byte) (body : State → Reply) (s : State) (h : s.listening = true)
    (short : p.length ≤ 64) : s.request code p body =
      (s.takeFrame (3 + p.length)).reply code s.buffer.isReady (body (s.takeFrame (3 + p.length))) := by
  unfold State.request
  dsimp only
  rw [State.endFrame_listening _ _ _ h, if_neg (by omega)]

/-- The bytes shifted out in a frame are as many as were clocked. -/
@[simp] theorem State.frameOut_length (n : Nat) (s : State) : (s.frameOut n).length = n := by
  cases n <;> simp [State.frameOut]

/-- So are those of a fetch frame that a reset abandoned, after the buffer state. -/
@[simp] theorem Buffer.fetchedUntil_length (clocked draw n : Nat) (b : Buffer) : (b.fetchedUntil clocked draw n).length = n := by
  cases b <;> simp [Buffer.fetchedUntil]

@[simp] theorem State.frameOut_zero (s : State) : s.frameOut 0 = [] := rfl
@[simp] theorem State.frameOut_succ (n : Nat) (s : State) : s.frameOut (n + 1) = s.frameHead :: List.replicate n 0xFF := rfl

/-- A take touches the link alone beyond what settling does. -/
@[simp] theorem State.takeFrame_openFrame (n : Nat) (s : State) : (s.takeFrame n).openFrame = none := rfl
@[simp] theorem State.takeFrame_shifted (n : Nat) (s : State) : (s.takeFrame n).shifted = s.frameOut n := rfl
@[simp] theorem State.takeFrame_hangers (n : Nat) (s : State) : (s.takeFrame n).hangers = s.begin.settle.hangers := rfl
@[simp] theorem State.takeFrame_queue (n : Nat) (s : State) : (s.takeFrame n).queue = s.begin.settle.queue := rfl
@[simp] theorem State.takeFrame_stations (n : Nat) (s : State) : (s.takeFrame n).stations = s.begin.settle.stations := rfl
@[simp] theorem State.takeFrame_channels (n : Nat) (s : State) : (s.takeFrame n).channels = s.begin.settle.channels := rfl
@[simp] theorem State.takeFrame_marks (n : Nat) (s : State) : (s.takeFrame n).marks = s.begin.settle.marks := rfl
@[simp] theorem State.takeFrame_carriage (n : Nat) (s : State) (c : CarriageId) :
    (s.takeFrame n).carriage c = s.begin.settle.carriage c := by cases c <;> rfl
@[simp] theorem State.takeFrame_sent (n : Nat) (s : State) : (s.takeFrame n).sent = s.begin.settle.sent := rfl

end Sys2Proof.Machine
end

