-- ==== Sys2Proof/Laws/PerInstr.lean ====
section
/-! SUPPORT. The family `Encoding`: the command code of each host command is not the fetch code and names that command (R160, R184);
the events are no request frames. One lemma per constructor. -/

namespace Sys2Proof.Laws.Encoding

open Sys2Proof

/-- The request of a command has a code that is not the fetch code and that names the command. -/
def Statement (i : Instr) : Prop :=
  ∀ q, i.request = some q → q.1 ≠ 0 ∧ commandOf q.1 q.2.1 q.2.2 = some i

/-- A command with this request, whose code names it. -/
theorem of_code {i : Instr} {c m : Byte} {p : List Byte} (r : i.request = some (c, m, p)) (h : c ≠ 0)
    (e : commandOf c m p = some i) : Statement i := by
  intro q hq
  rw [r] at hq
  cases hq
  exact ⟨h, e⟩

theorem beat : Statement .beat := nofun
theorem reset : Statement .reset := nofun
theorem lineStopActive : Statement .lineStopActive := nofun
theorem lineStopInactive : Statement .lineStopInactive := nofun
theorem readingFrame (frame : List Byte) : Statement (.readingFrame frame) := nofun
theorem arrived (c : CarriageId) (arg : Byte) : Statement (.arrived c arg) := nofun
theorem parked (c : CarriageId) (arg : Byte) : Statement (.parked c arg) := nofun
theorem lifted (c : CarriageId) (arg : Byte) : Statement (.lifted c arg) := nofun
theorem lowered (c : CarriageId) (arg : Byte) : Statement (.lowered c arg) := nofun
theorem faultReport (c : CarriageId) (code : Byte) : Statement (.faultReport c code) := nofun
theorem orderExpiry (c : CarriageId) : Statement (.orderExpiry c) := nofun
theorem drainEnd (c : CarriageId) : Statement (.drainEnd c) := nofun
theorem runComplete (st : StationNo) : Statement (.runComplete st) := nofun
theorem completion : Statement .completion := nofun
theorem fetchFrame (count : Nat) : Statement (.fetchFrame count) := nofun
theorem requestFrame (bytes : List Byte) : Statement (.requestFrame bytes) := nofun
theorem identify (m : Byte) (p : List Byte) : Statement (.identify m p) := of_code rfl (by decide) rfl
theorem readLine (m : Byte) (p : List Byte) : Statement (.readLine m p) := of_code rfl (by decide) rfl
theorem setLineParameters (m : Byte) (p : List Byte) : Statement (.setLineParameters m p) := of_code rfl (by decide) rfl
theorem linkReset (m : Byte) (p : List Byte) : Statement (.linkReset m p) := of_code rfl (by decide) rfl
theorem fullReset (m : Byte) (p : List Byte) : Statement (.fullReset m p) := of_code rfl (by decide) rfl
theorem startLine (m : Byte) (p : List Byte) : Statement (.startLine m p) := of_code rfl (by decide) rfl
theorem stopLine (m : Byte) (p : List Byte) : Statement (.stopLine m p) := of_code rfl (by decide) rfl
theorem pauseLine (m : Byte) (p : List Byte) : Statement (.pauseLine m p) := of_code rfl (by decide) rfl
theorem resume (m : Byte) (p : List Byte) : Statement (.resume m p) := of_code rfl (by decide) rfl
theorem setStation (m : Byte) (p : List Byte) : Statement (.setStation m p) := of_code rfl (by decide) rfl
theorem readStation (m : Byte) (p : List Byte) : Statement (.readStation m p) := of_code rfl (by decide) rfl
theorem setBayService (m : Byte) (p : List Byte) : Statement (.setBayService m p) := of_code rfl (by decide) rfl
theorem setActivity (m : Byte) (p : List Byte) : Statement (.setActivity m p) := of_code rfl (by decide) rfl
theorem setBathParameters (m : Byte) (p : List Byte) : Statement (.setBathParameters m p) := of_code rfl (by decide) rfl
theorem selectBank (m : Byte) (p : List Byte) : Statement (.selectBank m p) := of_code rfl (by decide) rfl
theorem loadSteps (m : Byte) (p : List Byte) : Statement (.loadSteps m p) := of_code rfl (by decide) rfl
theorem readSteps (m : Byte) (p : List Byte) : Statement (.readSteps m p) := of_code rfl (by decide) rfl
theorem clearBank (m : Byte) (p : List Byte) : Statement (.clearBank m p) := of_code rfl (by decide) rfl
theorem setRateTable (m : Byte) (p : List Byte) : Statement (.setRateTable m p) := of_code rfl (by decide) rfl
theorem readRateTable (m : Byte) (p : List Byte) : Statement (.readRateTable m p) := of_code rfl (by decide) rfl
theorem admitHanger (m : Byte) (p : List Byte) : Statement (.admitHanger m p) := of_code rfl (by decide) rfl
theorem retire (m : Byte) (p : List Byte) : Statement (.retire m p) := of_code rfl (by decide) rfl
theorem hold (m : Byte) (p : List Byte) : Statement (.hold m p) := of_code rfl (by decide) rfl
theorem release (m : Byte) (p : List Byte) : Statement (.release m p) := of_code rfl (by decide) rfl
theorem amend (m : Byte) (p : List Byte) : Statement (.amend m p) := of_code rfl (by decide) rfl
theorem setDose (m : Byte) (p : List Byte) : Statement (.setDose m p) := of_code rfl (by decide) rfl
theorem find (m : Byte) (p : List Byte) : Statement (.find m p) := of_code rfl (by decide) rfl
theorem findMatching (m : Byte) (p : List Byte) : Statement (.findMatching m p) := of_code rfl (by decide) rfl
theorem readRecords (m : Byte) (p : List Byte) : Statement (.readRecords m p) := of_code rfl (by decide) rfl
theorem readQueue (m : Byte) (p : List Byte) : Statement (.readQueue m p) := of_code rfl (by decide) rfl
theorem placeCarriage (m : Byte) (p : List Byte) : Statement (.placeCarriage m p) := of_code rfl (by decide) rfl
theorem recoverCarriage (m : Byte) (p : List Byte) : Statement (.recoverCarriage m p) := of_code rfl (by decide) rfl
theorem disableCarriage (m : Byte) (p : List Byte) : Statement (.disableCarriage m p) := of_code rfl (by decide) rfl
theorem enableCarriage (m : Byte) (p : List Byte) : Statement (.enableCarriage m p) := of_code rfl (by decide) rfl
theorem readCarriage (m : Byte) (p : List Byte) : Statement (.readCarriage m p) := of_code rfl (by decide) rfl
theorem setChannelMode (m : Byte) (p : List Byte) : Statement (.setChannelMode m p) := of_code rfl (by decide) rfl
theorem enableOutputs (m : Byte) (p : List Byte) : Statement (.enableOutputs m p) := of_code rfl (by decide) rfl
theorem setManualOutputs (m : Byte) (p : List Byte) : Statement (.setManualOutputs m p) := of_code rfl (by decide) rfl
theorem setPattern (m : Byte) (p : List Byte) : Statement (.setPattern m p) := of_code rfl (by decide) rfl
theorem readOutputs (m : Byte) (p : List Byte) : Statement (.readOutputs m p) := of_code rfl (by decide) rfl
theorem ack (m : Byte) (p : List Byte) : Statement (.ack m p) := of_code rfl (by decide) rfl
theorem doneService (m : Byte) (p : List Byte) : Statement (.doneService m p) := of_code rfl (by decide) rfl
theorem setMask (m : Byte) (p : List Byte) : Statement (.setMask m p) := of_code rfl (by decide) rfl
theorem setLevel (m : Byte) (p : List Byte) : Statement (.setLevel m p) := of_code rfl (by decide) rfl
theorem clearMark (m : Byte) (p : List Byte) : Statement (.clearMark m p) := of_code rfl (by decide) rfl
theorem readMarks (m : Byte) (p : List Byte) : Statement (.readMarks m p) := of_code rfl (by decide) rfl
theorem reportFrameDiscarded (c : CarriageId) : Statement (.reportFrameDiscarded c) := nofun
theorem frameBrokenOff (line : SerialLine) : Statement (.frameBrokenOff line) := nofun

end Sys2Proof.Laws.Encoding
end

