-- ==== Sys2Proof/Tests/Slice0.lean ====
section
/-! SUPPORT. The model's own tests. Each `test_` theorem is one step on a small state, its expected result worked from the manual. Each
`witness_` theorem shows a state and operands that meet the hypotheses of the obligation it names, clause by clause. -/

set_option Elab.async false

namespace Sys2Proof.Tests

open Sys2Proof.Machine

/-! ### Small states -/

/-- The next state of a command. -/
def after (i : Instr) (s : State) : State :=
  match exec i s with
  | .next t => t
  | _ => s

/-- The result, reason code, detail and data of the response in assembly. -/
def response (s : State) : Option (Result × Nat × Nat × List Byte) :=
  match s.buffer with
  | .working r => some (r.result, (r.reason.map Reason.code).getD 0, r.detail, r.data)
  | _ => none

/-- A small line in RUN at beat 1000: stations LOAD 0, DEVELOP 2 with pump 16, WASH 3 and UNLOAD 8; a recipe in bank 1; both carriages
parked. -/
def site : State := { State.reset with
  beat := 1000
  lineState := .run
  stations := (((State.reset.stations.set 0 { cls := .load, bayCount := 2 }).set 2
    { cls := .develop, bayCount := 2, pump := some 0, pattern := 1 }).set 3 { cls := .wash, bayCount := 1 }).set 8 { cls := .unload }
  banks := State.reset.banks.set 1 ⟨[⟨.develop, none, .exactDose, 480, 0, 24⟩, ⟨.wash, none, .timed, 60, 10, 0⟩,
    ⟨.wash, some 3, .openEnded, 30, 0, 8⟩], 0⟩
  carriage1 := { state := .parked, position := some (-1), span := some ⟨-1, -1⟩ }
  carriage2 := { state := .parked, position := some 16, span := some ⟨16, 16⟩ }
  sent := [] }

/-- The small line in PAUSED. -/
def paused : State := { site with lineState := .paused }

/-- Film of tag 5 from bank 1, immersed in bay 0 of the developer since beat 900. -/
def film : Hanger := { admitted 5 1 0 100 ⟨2, 0⟩ 900 with leg := 1, state := .immersed, target := some 7680 }

/-- A record put into slot 0, with its bay, its reservation, its tag and its bank's count. -/
def hung (h : Hanger) (s : State) : State :=
  let t := match h.position with
    | some d => s.setBay d ⟨.occupied 0, false⟩
    | none => s
  let u := match h.destination with
    | some d => t.setBay d ⟨.reserved 0, false⟩
    | none => t
  { u.setHanger 0 (some h) with tagIndex := [(h.tag, 0)], banks := u.banks.set 1 { u.banks[1] with useCount := 1 } }

/-- Carriage 1 in a state of a job for slot 0 from the developer to the wash, over `p`, with an order. -/
def riding (st : CarriageState) (p : Int) (o : Option Order) (s : State) : State :=
  { s with carriage1 := { state := st, position := some p, span := some ⟨2, 3⟩,
                          job := some ⟨0, .exactDose, 1200, ⟨2, 0⟩, ⟨3, 0⟩, st, none⟩, order := o.map (⟨·, 1100⟩) } }


/-- The line in CONFIG, with the carriages placed. -/
def config : State := { site with lineState := .config }

/-! ### The form of commands -/

theorem test_wellFormed_refuses_a_long_payload : Instr.wellFormed (.identify 0 (List.replicate 65 0)) = false ∧
    Instr.wellFormed (.identify 0 (List.replicate 64 0)) = true := by decide
theorem test_wellFormed_refuses_an_empty_fetch : Instr.wellFormed (.fetchFrame 0) = false ∧
    Instr.wellFormed (.fetchFrame 1) = true := by decide
theorem test_wellFormed_refuses_an_empty_request : Instr.wellFormed (.requestFrame []) = false := by decide
theorem test_wellFormed_refuses_a_request_with_the_fetch_code : Instr.wellFormed (.requestFrame [0x00, 1]) = false ∧
    Instr.wellFormed (.requestFrame [0x01, 0, 0]) = true := by decide
theorem test_wellFormed_refuses_a_garbled_reading : Instr.wellFormed (.readingFrame [0xC3, 0x02, 0x01, 0x68, 0x6A]) = false ∧
    Instr.wellFormed (.readingFrame [0xC3, 0x02, 0x01, 0x68, 0x6B]) = true := by decide

/-- Frames written out from R184 and R187: ADMIT with OVERRIDE of bank 1; LIFTED of bay 2; a reading of 360 at station 2. -/
theorem test_decode_frames :
    decodeRequest [0x20, 0x41, 6, 0x01, 0x37, 0, 0, 0, 100] = some (.admitHanger 0x41 [0x01, 0x37, 0, 0, 0, 100]) ∧
    decodeReport .two [0xA5, 0x13, 0x02, 0x11] = some (.lifted .two 2) ∧
    decodeReading [0xC3, 0x02, 0x01, 0x68, 0x6B] = some (2, 360) := by decide
theorem test_decode_reports :
    decodeReport .one [0xA5, 0x11, 0x0A, 0x1B] = some (.arrived .one 10) ∧
    decodeReport .one [0xA5, 0x12, 0x00, 0x12] = some (.parked .one 0) ∧
    decodeReport .one [0xA5, 0x14, 0x01, 0x15] = some (.lowered .one 1) ∧
    decodeReport .one [0xA5, 0x1F, 0x04, 0x1B] = some (.faultReport .one 4) ∧
    decodeReport .one [0xA5, 0x15, 0x01, 0x14] = none ∧ decodeReport .one [0xA5, 0x14, 0x01, 0x14] = none := by decide

/-! ### One step of each command -/

/-- A response with 20 bytes of data. -/
def reply : Response := ⟨.accepted, 0x01, none, 0, List.replicate 20 0, false, false, .run, 1⟩

/-- R1: the 4096th cycle ends the beat period. -/
theorem test_clock : step { State.reset with prescaler := 4094 } = .next { State.reset with prescaler := 4095, sent := [] } ∧
    (after .beat State.reset).beat = 1 := by
  constructor
  · rfl
  · decide +kernel
/-- R1: from 4,294,967,295 the beat counter wraps to 0. -/
theorem test_beat_wraps : (after .beat { State.reset with beat := 0xFFFFFFFF }).beat = 0 := by decide +kernel
theorem test_reset : (after .reset site).carriage1.state = .unplaced ∧ (after .reset site).sent = [(.one, .halt), (.two, .halt)] := by
  decide +kernel
/-- R87, R151, R152: a run in progress ends short, and the carriage is halted with its order kept. -/
theorem test_lineStopActive :
    let t := after .lineStopActive (riding .toSource 0 (some (.goto 2)) (site.setStation 2 { site.stations[2] with
      runRemaining := some 5, pendingRuns := 1 }))
    t.lineState = .stopped ∧ t.sent = [(.one, .halt)] ∧ t.carriage1.halted = some (.goto 2) ∧ t.stations[2].pendingRuns = 2 := by
  decide +kernel
theorem test_lineStopInactive : (after .lineStopInactive { site with stopActive := true, lineState := .stopped }).lineState =
    .stopped := by decide +kernel
theorem test_readingFrame : (after (.readingFrame [0xC3, 0x02, 0x01, 0x68, 0x6B]) site).stations[2].latest = some 360 := by
  decide +kernel
/-- R14: the fault code keeps the held value. -/
theorem test_readingFrame_fault :
    let t := after (.readingFrame [0xC3, 0x02, 0x03, 0xFF, 0xFE]) (after (.readingFrame [0xC3, 0x02, 0x01, 0x68, 0x6B]) site)
    t.stations[2].latest = some 1023 ∧ t.stations[2].heldValue = some 360 ∧ t.hasMark .sensorStale 2 = true := by decide +kernel
theorem test_arrived : (after (.arrived .one 2) (riding .toSource 0 (some (.goto 2)) (hung { film with dose := 7680 } site))).sent =
    [(.one, .lift 0)] := by decide +kernel
theorem test_parked : (after (.parked .two 0) { site with
  carriage2 := { state := .yielding, position := some 9, span := some ⟨9, 16⟩, order := some ⟨.park, 1100⟩ } }).carriage2.state = .parked := by decide +kernel
/-- R121: the drain of the developer's step is 24 beats. -/
theorem test_lifted : ((after (.lifted .one 0) (riding .lifting 2 (some (.lift 0)) (hung { film with state := .inTransit } site))).carriage1.job.bind
    Job.drainEnd) = some 1024 := by decide +kernel
theorem test_lowered : ((after (.lowered .one 0) (riding .lowering 3 (some (.lower 0)) (hung { film with
    state := .inTransit, position := none, destination := some ⟨3, 0⟩ } paused))).hangers[0].map fun h => (h.leg, h.state)) =
      some (2, .immersed) := by decide +kernel
/-- R116: a code that is not the driver's to give becomes PROTOCOL, 2. -/
theorem test_faultReport : (after (.faultReport .one 16) site).carriage1.faultCode = some 2 ∧
    (after (.faultReport .one 15) site).carriage1.faultCode = some 15 := by decide +kernel
theorem test_orderExpiry : (after (.orderExpiry .one) { riding .lifting 2 (some (.lift 0)) site with due := [.expiry .one] }).carriage1.faultCode
    = some 1 := by decide +kernel
theorem test_drainEnd : (after (.drainEnd .one) { riding .draining 2 none site with due := [.drain .one] }).sent =
    [(.one, .goto 3)] := by decide +kernel
/-- R86 with R 24: a deficit of 10 leaves 14 for the activity. -/
theorem test_runComplete :
    let t := after (.runComplete 2) { site.setStation 2 { site.stations[2] with activity := 512, deficit := 10 } with due := [.credit 2] }
    t.stations[2].activity = 526 ∧ t.stations[2].deficit = 0 := by decide +kernel
theorem test_completion : (after .completion (after (.identify 0 []) site)).buffer.isReady = true := by decide +kernel
/-- R163, R184, R185: the capability record, fetched whole. -/
theorem test_fetchFrame :
    let t := after (.fetchFrame 21) { after .completion (after (.identify 0 []) State.reset) with openFrame := none }
    t.shifted = [0x03, 0, 0x01, 0, 0, 0, 12, 0, 1, 0x01, 0x57, 0x01, 0x9C, 1, 16, 48, 32, 12, 2, 20, 8] ∧ t.buffer = .empty := by
  decide +kernel
/-- R160, R163: the buffer was still WORKING when select was asserted, so that the first byte is 0x02 and nothing is delivered; a reset
came after select, while it was EMPTY, so that the first byte is 0x01 and the frame is ignored. -/
theorem test_fetchFrame_in_progress :
    let t := after .completion (after (.identify 0 []) State.reset)
    (after (.fetchFrame 3) { t with openFrame := some (.begunWorking reply) }).shifted = [0x02, 0xFF, 0xFF] ∧
    (after (.fetchFrame 21) { t with openFrame := some (.begunWorking reply) }).buffer = t.buffer ∧
    (after (.fetchFrame 21) { t with openFrame := some (.abandoned .empty 0) }).buffer = t.buffer ∧
    (after (.fetchFrame 3) { t with openFrame := some (.abandoned .empty 0) }).shifted = [0x01, 0xFF, 0xFF] := by decide +kernel
/-- R160, R163: a reset came after the buffer state and four bytes of the header had been shifted out of a fetch begun READY; of a
request frame the rest is filler. -/
theorem test_fetchFrame_abandoned :
    let s := { site with openFrame := some (.abandoned (.ready reply) 4) }
    ((after (.fetchFrame 12) s).shifted.take 5) = [0x03, 0, 0x01, 0, 0] ∧ (after (.fetchFrame 12) s).shifted.length = 12 ∧
    (after (.fetchFrame 30) s).shifted[29]? = some 0xFF ∧
    (after (.requestFrame [0x01, 0, 0, 0]) s).shifted = [0x03, 0xFF, 0xFF, 0xFF] := by
  refine ⟨by decide +kernel, rfl, by decide +kernel, by decide +kernel⟩
theorem test_requestFrame : response (after (.requestFrame [0x77, 0, 0]) site) = some (.refused, 2, 0x77, []) ∧
    response (after (.requestFrame [0x01, 0]) site) = some (.refused, 1, 2, []) := by decide +kernel
theorem test_identify : response (after (.identify 0 [1]) site) = some (.refused, 3, 0, []) := by decide +kernel
theorem test_readLine : ((response (after (.readLine 0 []) site)).map fun r => r.2.2.2.take 14) =
    some [1, 0, 0, 3, 0xE8, 0, 0, 40, 20, 64, 16, 12, 80, 0] := by decide +kernel
/-- R171: a sensor timeout below 8 is stored as 8. -/
theorem test_setLineParameters : response (after (.setLineParameters 0 [40, 20, 7, 16, 12, 80]) site) =
    some (.accepted, 0, 1, [40, 20, 8, 16, 12, 80]) := by decide +kernel
theorem test_linkReset : (after (.linkReset 0 []) { site with sequence := 9, bankPointer := 3 }).sequence = 0 := by decide +kernel
theorem test_fullReset : (after (.fullReset 0 []) site).buffer = .empty ∧ (after (.fullReset 0 []) site).beat = 0 := by decide +kernel
theorem test_startLine : (after (.startLine 0 []) config).lineState = .run ∧
    response (after (.startLine 0 []) State.reset) = some (.refused, 7, 0, []) := by decide +kernel
theorem test_stopLine : response (after (.stopLine 0 []) (hung film site)) = some (.refused, 10, 1, []) ∧
    (after (.stopLine 0 []) site).lineState = .config := by decide +kernel
theorem test_pauseLine : (after (.pauseLine 0 []) site).lineState = .paused := by decide +kernel
/-- R156, R157: a halted GOTO is issued again, action 1. -/
theorem test_resume : response (after (.resume 0 []) { site with
  lineState := .stopped
  carriage1 := { site.carriage1 with state := .halted, halted := some .park } }) = some (.accepted, 0, 0, [1, 0]) := by decide +kernel
theorem test_setStation : (after (.setStation 0 [5, 3, 4, 2]) config).stations[5].cls = .develop ∧
    response (after (.setStation 0 [5, 9, 4, 2]) config) = some (.refused, 3, 1, []) := by decide +kernel
theorem test_readStation : ((response (after (.readStation 0 [2]) (hung film site))).map fun r => r.2.2.2.take 12) =
    some [2, 3, 2, 1, 2, 0, 0, 0xFF, 0xFF, 0xFF, 0xFF, 0xFF] := by decide +kernel
theorem test_setBayService : response (after (.setBayService 0 [2, 0, 0]) (hung film site)) = some (.accepted, 0, 2, []) ∧
    response (after (.setBayService 0 [2, 2, 0]) site) = some (.refused, 13, 0, []) := by decide +kernel
theorem test_setActivity : response (after (.setActivity 0 [2, 1, 255]) site) = some (.accepted, 0, 1, [2, 0]) := by decide +kernel
theorem test_setBathParameters : response (after (.setBathParameters 0 [2, 0, 255, 0, 200, 17, 16, 0, 24]) site) =
    some (.accepted, 0, 0, [0, 255, 0, 200, 17, 16, 0, 24]) := by decide +kernel
theorem test_selectBank : (after (.selectBank 0 [31]) site).bankPointer = 31 := by decide +kernel
/-- R28, R29: a TIMED wash of 60 s with 10 s of overstay, written whole. -/
theorem test_loadSteps : response (after (.loadSteps 0x42 [1, 0, 7, 1, 0, 60, 0, 10, 0xFF, 4]) site) = some (.accepted, 0, 0, [2, 1, 1, 1]) ∧
    (after (.loadSteps 0x42 [1, 0, 7, 1, 0, 60, 0, 10, 0xFF, 4]) site).banks[2].steps = [⟨.wash, none, .timed, 60, 10, 4⟩] := by
  decide +kernel
theorem test_readSteps : ((response (after (.readSteps 0x41 []) site)).map fun r => r.2.2.2.take 11) =
    some [1, 3, 0, 3, 0, 1, 0xE0, 0, 0, 0xFF, 24] := by decide +kernel
theorem test_clearBank : (after (.clearBank 0x41 []) site).banks[1].steps = [] ∧
    response (after (.clearBank 0x41 []) (hung film site)) = some (.refused, 14, 1, []) := by decide +kernel
theorem test_setRateTable : ((response (after (.setRateTable 0 (List.replicate 17 [0x04, 0x00]).flatten) site)).map fun r =>
    (r.2.2.1, r.2.2.2.take 2)) = some (17, [0x03, 0xFF]) := by decide +kernel
theorem test_readRateTable : ((response (after (.readRateTable 0 []) site)).map fun r => r.2.2.2.take 4) = some [0, 177, 0, 194] := by
  decide +kernel
theorem test_admit : response (after (.admitHanger 0x41 [0, 7, 0, 25, 0, 200]) paused) = some (.accepted, 0, 0, [0, 0, 0, 0, 3, 0xE8]) ∧
    (after (.admitHanger 0x41 [0, 7, 0, 25, 0, 200]) site).sent = [(.one, .goto 0)] := by decide +kernel
theorem test_retire : (after (.retire 0 [0]) (hung { film with state := .finished } site)).hangers[0] = none ∧
    response (after (.retire 0 [0]) (hung film site)) = some (.refused, 23, 2, []) := by decide +kernel
theorem test_hold : response (after (.hold 0 [0]) (hung film site)) = some (.refused, 24, 1, []) ∧
    ((after (.hold 0 [0]) (hung { film with leg := 3 } site)).hangers[0].map Hanger.held) = some true := by decide +kernel
/-- R45: the minimum of 30 s is 240 beats, long past at beat 1000 for a step begun at 700. -/
theorem test_release : response (after (.release 0 [0]) (hung { film with leg := 3, held := true, stepStart := 700 } paused)) =
    some (.accepted, 0, 2, []) := by decide +kernel
/-- R47, R61: 480 s at +25 % is 9600. -/
theorem test_amend : response (after (.amend 0 [0, 1, 0, 25, 0, 0]) (hung film site)) =
    some (.accepted, 0, 0, [0, 25, 0, 100, 0, 0x25, 0x80]) := by decide +kernel
theorem test_setDose : response (after (.setDose 0 [0, 0, 0x1E, 0x00]) (hung film paused)) =
    some (.accepted, 0, 1, [0, 0x1E, 0, 0, 0x1E, 0, 3]) := by decide +kernel
theorem test_find : response (after (.find 0 [0, 5]) (hung film site)) = some (.accepted, 0, 0, [0, 2]) ∧
    response (after (.find 0 [0, 6]) (hung film site)) = some (.nothing, 0, 0, []) := by decide +kernel
theorem test_findMatching : response (after (.findMatching 0 [4, 2, 1, 0, 0]) (hung film site)) = some (.accepted, 0, 0, [1, 0]) ∧
    response (after (.findMatching 0 [8, 2, 1, 0, 0]) (hung film site)) = some (.accepted, 0, 0, [0]) := by decide +kernel
/-- R185: the image of the record. -/
theorem test_readRecords : response (after (.readRecords 0 [0, 1]) (hung film site)) = some (.accepted, 0, 1,
    [0x20, 5, 1, 50, 0x10, 100, 0x20, 0xFF, 0, 0, 3, 0x84, 0, 0, 0, 0, 0, 0, 0x1E, 0, 0xFF, 0xFF, 0xFF, 0]) := by decide +kernel
theorem test_readQueue : response (after (.readQueue 0 []) { site with queue := [⟨0, .exactDose, 1200, ⟨2, 0⟩, none⟩] }) =
    some (.accepted, 0, 1, [1, 0, 0, 0, 0, 4, 0xB0, 0x20, 0xFF]) := by decide +kernel
theorem test_placeCarriage : response (after (.placeCarriage 0 [1, 0]) config) = some (.accepted, 0, 1, []) ∧
    response (after (.placeCarriage 0 [2, 0]) config) = some (.refused, 3, 1, []) := by decide +kernel
theorem test_recoverCarriage : (after (.recoverCarriage 0 [1, 3, 3]) (riding .fault 2 none (hung { film with
    state := .faulted, position := none, faultReason := some .carriageFault } site))).hangers[0].bind Hanger.faultReason =
      some .removed := by decide +kernel
/-- R10, R11, R54: DELIVERED of a hanger that no LIFTED reported leaves it in its destination bay alone. -/
theorem test_recoverCarriage_delivered :
    let t := after (.recoverCarriage 0 [1, 4, 2]) (riding .fault 2 none (hung { film with
      state := .faulted, position := none, destination := some ⟨3, 0⟩, faultReason := some .carriageFault } (site.setBay ⟨2, 0⟩ ⟨.occupied 0, false⟩)))
    (t.bayAt ⟨2, 0⟩).state = .empty ∧ (t.bayAt ⟨3, 0⟩).state = .occupied 0 := by decide +kernel
theorem test_disableCarriage : (after (.disableCarriage 0 [2, 17]) site).carriage2.state = .disabled := by decide +kernel
theorem test_enableCarriage : response (after (.enableCarriage 0 [2, 17]) site) = some (.refused, 23, 1, []) := by decide +kernel
theorem test_readCarriage : ((response (after (.readCarriage 0 [1]) site)).map fun r => r.2.2.2.take 17) =
    some [1, 1, 1, 0, 0, 0, 0, 0xFF, 0xFF, 0xFF, 0xFF, 0xFF, 0xFF, 0xFF, 0xFF, 0xFF, 0] := by decide +kernel
theorem test_setChannelMode : response (after (.setChannelMode 0 [19, 2]) site) = some (.accepted, 0, 1, []) ∧
    (after (.setChannelMode 0 [19, 0]) site).channels[19].mode = .auto := by decide +kernel
theorem test_enableOutputs : response (after (.enableOutputs 0 [0x05, 0, 0x08, 0x04, 0, 0x08]) site) =
    some (.accepted, 0, 0, [0x04, 0, 0x08]) := by decide +kernel
theorem test_setManualOutputs : response (after (.setManualOutputs 0 [0x04, 0, 0, 0x04, 0, 0]) site) = some (.refused, 23, 2, []) := by
  decide +kernel
theorem test_setPattern : response (after (.setPattern 0 [1, 5, 80, 80]) site) = some (.accepted, 0, 1, [1, 5, 79, 80]) := by
  decide +kernel
theorem test_readOutputs : ((response (after (.readOutputs 0 []) site)).map fun r => r.2.2.2.drop 21) = some
    [2, 0xFF, 0xFF, 0xFF, 0, 8, 80, 40, 8, 80, 80, 16, 240, 16, 4, 40, 0, 1, 2, 255, 16, 160, 0, 254, 255] := by decide +kernel
theorem test_ack : ((response (after (.ack 0 []) ({ hung film site with mask := 7 }.mark .overstay 0))).map fun r => r.2.2.2.take 6) =
    some [4, 3, 0, 1, 3, 1] := by decide +kernel
theorem test_done : response (after (.doneService 0 []) { site with mask := 3, maskStack := [5, 7] }) = some (.accepted, 0, 5, [1]) := by
  decide +kernel
theorem test_setMask : response (after (.setMask 0 [7]) { site with mask := 3, maskStack := [5, 7] }) = some (.refused, 23, 2, []) := by
  decide +kernel
theorem test_setLevel : response (after (.setLevel 0 [12, 9]) site) = some (.accepted, 0, 1, [0, 1, 1, 2, 3, 3, 3, 4, 4, 4, 5, 5, 7]) := by
  decide +kernel
theorem test_clearMark : response (after (.clearMark 0 [2, 2]) (site.mark .carriageFault 2)) = some (.accepted, 0, 1, []) ∧
    response (after (.clearMark 0 [2, 3]) site) = some (.refused, 3, 2, []) := by decide +kernel
theorem test_readMarks : ((response (after (.readMarks 0 []) ({ site with mask := 7 }.mark .unloadFull 0))).map fun r =>
    r.2.2.2.drop 70) = some [0, 2, 1] := by decide +kernel
theorem test_reportFrameDiscarded : (after (.reportFrameDiscarded .two) { site with receivers := ⟨false, false, false⟩ }).receivers =
    ⟨false, true, false⟩ := by decide +kernel
theorem test_frameBrokenOff : (after (.frameBrokenOff .sensor) { site with receivers := ⟨false, false, false⟩ }).receivers =
    ⟨false, false, true⟩ := by decide +kernel

/-- The table of R61. -/
theorem test_targets : targetDose 1 (-50) = 8 ∧ targetDose 480 0 = 7680 ∧ targetDose 480 25 = 9600 ∧ targetDose 300 (-33) = 3216 ∧
    targetDose 7 1 = 113 ∧ targetDose 16383 200 = 786384 := by decide
/-- The table of R64. -/
theorem test_rates : [200, 320, 360, 370, 511, 512, 600].map (rateAt resetRates) = [177, 256, 323, 342, 771, 776, 776] := by decide


/-! ### Witnesses

The longest payload a frame carries, the shortest, and the states in which the hypotheses of the obligations are met. -/

/-- A payload of the greatest length. -/
def full : List Byte := List.replicate 64 0

/-- A payload beyond the greatest length. -/
def overfull : List Byte := List.replicate 65 0

/-- The small line with that response in assembly and READY. -/
def working : State := { site with buffer := .working reply }
def ready : State := { site with buffer := .ready reply }

/-- The small line with a frame in progress that a reset abandoned, and one that began while the buffer was WORKING. -/
def forsaken : State := { ready with openFrame := some (.abandoned (.ready reply) 4) }
def early : State := { ready with openFrame := some (.begunWorking reply) }

/-- The line in STOPPED. -/
def stopped : State := { site with lineState := .stopped }

/-- Every payload of the two lengths at the ends of the range is taken from the small line. -/
theorem witness_listening : site.listening = true ∧ config.listening = true ∧ paused.listening = true ∧ stopped.listening = true ∧
    (hung film paused).listening = true ∧ ready.listening = true ∧ early.listening = true ∧ ([] : List Byte).length ≤ 64 ∧ full.length = 64 ∧ full ≠ [] := by
  decide +kernel

theorem witness_EveryCommandAnswers : Instr.beat ≠ .lineStopActive ∧ Instr.beat ≠ .lineStopInactive := by decide
theorem witness_ResetRestoresThePart : ready.listening = true ∧ early.listening = true ∧ forsaken.openFrame ≠ none ∧
    ([0] : List Byte) ≠ [] ∧ full ≠ [] ∧ full.length ≤ 64 := by decide +kernel
theorem witness_LinkResetClearsTheLink : ready.listening = true ∧ full ≠ [] ∧ full.length ≤ 64 ∧
    (∀ begun clocked, working.openFrame ≠ some (.abandoned begun clocked)) ∧ working.buffer = .working reply :=
  ⟨by decide +kernel, by decide, by decide, fun _ _ h => (nomatch (h : (none : Option OpenFrame) = some _)), rfl⟩
/-- Frames that a reset abandoned, begun while READY, with four bytes of the header shifted out and with all of the response, and while
WORKING: of a known command, of raw bytes, and a fetch. -/
theorem witness_RequestsAreTakenOrDropped : site.due = [] ∧ (Instr.readLine 0 full).request = some (0x02, 0, full) ∧
    (∀ begun clocked, working.openFrame ≠ some (.abandoned begun clocked)) ∧ working.buffer = .working reply ∧
    forsaken.openFrame = some (.abandoned (.ready reply) 4) ∧
    { working with openFrame := some (.abandoned (.working reply) 0) }.openFrame = some (.abandoned (.working reply) 0) ∧
    66 = 2 + full.length ∧ (Instr.requestFrame [0x77] = .requestFrame (0x77 :: [])) ∧ (0x77 : Byte) ≠ 0 ∧
    (∀ r, Buffer.working reply ≠ .ready r) ∧ (3 < 12 ∧ 3 < 4) ∧ (28 < 30 ∧ 8 + reply.data.length ≤ 28) :=
  ⟨rfl, rfl, fun _ _ h => (nomatch (h : (none : Option OpenFrame) = some _)), rfl, rfl, rfl, by decide, rfl, by decide,
    fun _ h => (nomatch h), by decide, by decide⟩
theorem witness_RefusalsChangeNothing : (∃ r, (Instr.identify 0 full).request = some (0x01, 0, full) ∧ site.listening = true ∧
      exec (.identify 0 full) site = .next (after (.identify 0 full) site) ∧ (after (.identify 0 full) site).buffer = .working r ∧
      r.result = .refused) ∧
    (Instr.identify 0 overfull).request = some (0x01, 0, overfull) ∧ 64 < overfull.length ∧
    exec (.identify 0 overfull) site = .next (after (.identify 0 overfull) site) :=
  ⟨⟨_, rfl, by decide +kernel, rfl, rfl, by decide +kernel⟩, rfl, by decide, rfl⟩
theorem witness_FramesCarryTheirCommands : Instr.wellFormed (.setMask 0x20 full) = true ∧
    encodeRequest (.setMask 0x20 full) = some (0x42 :: 0x20 :: 64 :: full) ∧
    (Instr.lifted .two 255).report = some (.two, 0x13, 255) ∧ encodeReport (.lifted .two 255) = some [0xA5, 0x13, 255, 0xEC] ∧
    0 < 1024 ∧ 1023 < 1024 := by decide +kernel
/-- Frames of 2 bytes, of a declared length of 65 and of a length other than declared; an unknown code with 64 bytes declared. -/
theorem witness_UnknownFramesAreRefused : site.listening = true ∧ (0x01 : Byte) ≠ 0 ∧ 1 + ([0] : List Byte).length < 3 ∧
    64 < (([0, 65] : List Byte).getD 1 0).toNat ∧ 1 + (0 :: 64 :: full.tail).length ≠ 3 + 64 ∧
    (0x77 : Byte) ≠ 0 ∧ 1 + (0 :: 64 :: full).length = 3 + (((0 :: 64 :: full).getD 1 0) : Byte).toNat ∧
    ∀ m p, commandOf 0x77 m p = none :=
  ⟨by decide +kernel, by decide, by decide, by decide, by decide, by decide, by decide, fun _ _ => rfl⟩
/-- A response with 20 bytes of data, fetched but for its last byte and whole; a frame begun while WORKING. -/
theorem witness_ResponsesAreFetchedWhole : working.buffer = .working reply ∧ (∀ q, site.buffer ≠ .working q) ∧
    early.openFrame = some (.begunWorking reply) ∧ working.openFrame = none ∧ site.openFrame = none ∧ ready.openFrame = none ∧
    site.buffer = .empty ∧ ready.buffer = .ready reply ∧ 27 < 8 + reply.data.length ∧ 8 + reply.data.length ≤ 28 :=
  ⟨rfl, fun _ h => (nomatch (h : Buffer.empty = .working _)), rfl, rfl, rfl, rfl, rfl, rfl, by decide, by decide⟩
/-- Station 2 with the reserved bits of its byte and of the value at 1; the values 1022 and 1023. -/
theorem witness_ReadingsAreTaken : (0xF2 : Byte).toNat % 16 = (2 : StationNo).val ∧ (0xFF : Byte).toNat % 4 * 256 + (0xFE : Byte).toNat = 1022 ∧
    1022 < 1023 ∧ (0xFF : Byte).toNat % 4 * 256 + (0xFF : Byte).toNat = 1023 := by decide
theorem witness_GarbledFramesAreDiscarded : decodeReading [0xC3, 0, 0, 0, 1] = none ∧ ([0xC3, 0, 0, 0] : List Byte).length ≠ 5 ∧
    1023 < 1024 ∧ (encodeReading 15 1023)[3 + 1]? ≠ some 0 := by decide +kernel
/-- The small line with pump 16 in AUTO and enabled, on a run for the developer with `n` more pending. -/
def pumping (n : Nat) : State := (site.setStation 2 { site.stations[2] with runRemaining := some 5, pendingRuns := n }).setChannel 16
  ⟨.auto, true, true, true⟩
/-- The input inactive and active; a run with 2 and with 3 more pending; carriage 1 with a LIFT and with a LOWER outstanding, the valve of
that station staged on in AUTO and in MANUAL, and with a GOTO. -/
theorem witness_LineStopHaltsTheLine : { site with stopActive := true }.stopActive = true ∧
    (∀ n ∈ [2, 3], (pumping n).stopActive = false ∧ (pumping n).found.stations[2].runRemaining ≠ none ∧
      (pumping n).found.stations[2].pendingRuns = n ∧ (pumping n).found.stations[2].pump = some 0 ∧ pumpChannel 0 = 16 ∧
      (pumping n).found.channels[16] = ⟨.auto, true, true, true⟩) ∧
    (∀ mode ∈ [ChannelMode.auto, .manual], ∀ e ∈ [(CarriageState.lifting, Order.lift 0, (2 : StationNo)), (.lowering, .lower 0, 3),
        (.toSource, .goto 2, 2)],
      let s := (riding e.1 2 (some e.2.1) (hung film site)).setChannel (valveOf e.2.2) ⟨mode, true, true, true⟩
      s.stopActive = false ∧ (s.found.carriage .one).order ≠ none ∧
        (s.found.carriage .one).job = some ⟨0, .exactDose, 1200, ⟨2, 0⟩, ⟨3, 0⟩, e.1, none⟩ ∧
        s.found.channels[valveOf e.2.2] = ⟨mode, true, true, true⟩) := by decide +kernel
theorem witness_BeatsCount : site.pending = [] ∧ { site with prescaler := 4094 }.prescaler < 4095 ∧
    4095 ≤ { site with prescaler := 4095 }.prescaler := by decide +kernel
theorem witness_BeatsAgeReadings : exec .beat site = .next (after .beat site) := rfl

/-- Film in the developer, with a reading of 360 taken at the developer. -/
def measured (s : State) : State := after (.readingFrame [0xC3, 0x02, 0x01, 0x68, 0x6B]) s

/-- The developer of a state with a run in progress. -/
def running (n : Nat) (s : State) : State := s.setStation 2 { s.stations[2] with runRemaining := some n }

/-- Outside RUN without a run, and in RUN with a run that does not end; without a reading and with one. A carriage in AWAIT_LIFT, where a
beat gives 2 and the target is 7680: the dose stays one short, comes to it, and ends at the allowance of 153 above it and one further, in
RUN, PAUSED and STOPPED. -/
theorem witness_BeatsDevelopTheFilm :
    (exec .beat (hung film paused) = .next (after .beat (hung film paused)) ∧
      (hung film paused).found.hangers[0] = some film ∧ film.position = some ⟨2, 0⟩ ∧ film.state = .immersed ∧
      (hung film paused).found.legKind film = some .exactDose ∧ (hung film paused).lineState ≠ .run ∧
      (hung film paused).found.stations[2].runRemaining = none ∧ (hung film paused).found.stations[2].pendingRuns = 0 ∧
      (stationRate (hung film paused).rates ((hung film paused).found.stations[2].aged 64)).2 = true ∧ film.provisional = false) ∧
    exec .beat (running 2 (measured (hung film site))) = .next (after .beat (running 2 (measured (hung film site)))) ∧
      (running 2 (measured (hung film site))).found.hangers[0] = some film ∧
      (running 2 (measured (hung film site))).found.legKind film = some .exactDose ∧
      (running 2 (measured (hung film site))).found.queue = [] ∧
      (running 2 (measured (hung film site))).found.stations[2].runRemaining = some (0 + 2) ∧
      (stationRate (hung film paused).rates ((running 2 (measured (hung film site))).found.stations[2].aged 64)).2 = false ∧
    ∀ line ∈ [LineState.run, .paused, .stopped], ∀ dose ∈ [7677, 7678, 7831, 7832],
      let h := { film with state := .due, dose := dose }
      let s := { riding .awaitLift 2 none (hung h site) with lineState := line }
      exec .beat s = .next (after .beat s) ∧ s.found.hangers[0] = some h ∧ h.position = some ⟨2, 0⟩ ∧ h.target = some 7680 ∧
        s.found.legKind h = some .exactDose ∧ s.found.queue = [] ∧ s.lineState = line ∧
        s.found.stations[2].runRemaining = none ∧ s.found.stations[2].pendingRuns = 0 ∧
        (s.found.carriage .one).state = .awaitLift ∧
        (s.found.carriage .one).job = some ⟨0, .exactDose, 1200, ⟨2, 0⟩, ⟨3, 0⟩, .awaitLift, none⟩ ∧
        2 * (stationRate s.rates (s.found.stations[2].aged 64)).1 * (s.found.stations[2].aged 64).activity = 2 * 262144 ∧
        7680 * s.params.tolerance / 1000 = 153 ∧ s.params.sensorTimeout = 64 := by
  refine ⟨⟨rfl, ?_⟩, rfl, ?_, ?_, ?_, ?_, ?_, ?_⟩
  · decide +kernel
  · decide +kernel
  · decide +kernel
  · decide +kernel
  · decide +kernel
  · decide +kernel
  · intro line hl dose hd
    refine ⟨rfl, rfl, rfl, rfl, ?_⟩
    revert hd; revert dose; revert hl; revert line; decide +kernel

/-- A leg on the wash, a TIMED step of 60 s with 10 s of overstay, and one on the open step, of 30 s, begun at a beat. -/
def washed (start : Beat) : Hanger := { film with leg := 2, target := none, stepStart := start }
def opened (start : Beat) : Hanger := { film with leg := 3, target := none, stepStart := start }

/-- In PAUSED, and in RUN with an empty queue and no job: one beat on from beat 1000 a TIMED leg begun at 521 is at its minimum and one begun at 522 is not; one begun at 440 is beyond its
overstay and one begun at 441 is not; an OPEN leg is at its minimum if begun at 761. -/
theorem witness_BeatsTimeTheFilm :
    (exec .beat (hung (washed 521) paused) = .next (after .beat (hung (washed 521) paused)) ∧
      (hung (washed 521) paused).lineState ≠ .run ∧ (hung (washed 521) site).lineState = .run ∧
      (hung (washed 521) site).found.queue = [] ∧ (hung (washed 521) site).found.carriage1.job = none ∧
      (hung (washed 521) site).found.carriage2.job = none ∧ (hung (washed 521) site).found.hangers[0] = some (washed 521) ∧
      (hung (washed 521) paused).found.hangers[0] = some (washed 521) ∧
      (washed 521).position = some ⟨2, 0⟩ ∧ (washed 521).state = .immersed ∧
      (hung (washed 521) paused).found.legStep (washed 521) = some ⟨.wash, none, .timed, 60, 10, 0⟩ ∧
      (hung (washed 521) paused).found.carriage1.job = none ∧ (hung (washed 521) paused).found.carriage2.job = none ∧
      (washed 521).held = false ∧ (60 * 8 : Nat) ≤ beatDiff (1000 + 1) 521 ∧ ¬(60 * 8 : Nat) ≤ beatDiff (1000 + 1) 522) ∧
    ((hung (opened 761) paused).found.legStep (opened 761) = some ⟨.wash, some 3, .openEnded, 30, 0, 8⟩ ∧
      (30 * 8 : Nat) ≤ beatDiff (1000 + 1) 761 ∧ ¬(30 * 8 : Nat) ≤ beatDiff (1000 + 1) 762) ∧
    ((hung film paused).found.legStep film = some ⟨.develop, none, .exactDose, 480, 0, 24⟩ ∧ film.target = some 7680 ∧
      (hung film paused).found.stations[2].runRemaining = none ∧ (hung film paused).found.stations[2].pendingRuns = 0 ∧
      film.dose < 7680 ∧ { film with dose := 7680 }.target = some 7680) ∧
    (washed 440).overstayNoted = false ∧ (hung (washed 440) paused).found.legStep (washed 440) = some ⟨.wash, none, .timed, 60, 10, 0⟩ ∧
      ((60 + 10) * 8 : Nat) < beatDiff (1000 + 1) 440 ∧ ¬((60 + 10) * 8 : Nat) < beatDiff (1000 + 1) 441 ∧
      (hung { washed 440 with state := .due } site).found.queue = [] := by
  refine ⟨⟨rfl, ?_⟩, ?_, ?_, ?_⟩ <;> decide +kernel

/-- A run is due and its channel is free; it is not free; no run is due. A run completes at the beat, with 1 beat left or, begun at it,
with a length of 1; one does not, with 2 beats left or with a length of 2. -/
theorem witness_PumpRunsCountAndCredit :
    let pump := { site with channels := site.channels.set 16 ⟨.auto, true, false, false⟩ }
    let owed := fun (n : Nat) (s : State) => s.setStation 2 { s.stations[2] with pendingRuns := 1, runLength := n }
    exec .beat (owed 16 pump) = .next (after .beat (owed 16 pump)) ∧
    ((owed 16 pump).found.stations[2].cls = .develop ∧ (owed 16 pump).found.stations[2].pump = some 0 ∧
      (owed 16 pump).found.stations[2].runRemaining = none ∧ 0 < (owed 16 pump).found.stations[2].pendingRuns ∧
      (owed 16 pump).found.channels[pumpChannel 0].mode = .auto ∧ (owed 16 pump).found.channels[pumpChannel 0].enable = true ∧
      pump.stopActive = false) ∧
    ((owed 16 site).found.channels[pumpChannel 0].mode ≠ .auto ∧ pump.found.stations[2].pendingRuns = 0 ∧
      (running 1 pump).found.stations[2].runRemaining = some 1 ∧ (running 2 pump).found.stations[2].runRemaining = some 2) ∧
    (∀ n ∈ [1, 2], (owed n pump).found.stations[2].runLength = n ∧ (owed n pump).found.stations[2].cls = .develop ∧
      (owed n pump).found.stations[2].runRemaining = none ∧ 0 < (owed n pump).found.stations[2].pendingRuns ∧
      (owed n pump).found.stopActive = false ∧ ∃ p, (owed n pump).found.stations[2].pump = some p ∧
        (owed n pump).found.channels[pumpChannel p].mode = .auto ∧ (owed n pump).found.channels[pumpChannel p].enable = true) ∧
    FollowUp.credit 2 ∈ { site with due := [.credit 2] }.due ∧ FollowUp.credit 2 ∉ site.due := by
  refine ⟨rfl, ?_⟩; decide +kernel

/-- The valve of the developer in AUTO with pattern 1, the pump's channel in AUTO and in OFF, the other pumps' channels with no station,
and a channel in MANUAL. -/
theorem witness_BeatsTransferTheOutputs :
    let s := { hung film site with
      channels := ((site.channels.set 2 ⟨.auto, true, false, false⟩).set 3 ⟨.manual, true, true, true⟩).set 16 ⟨.auto, true, false, false⟩ }
    exec .beat s = .next (after .beat s) ∧ (2 : ChannelNo) = valveOf 2 ∧ (16 : ChannelNo) = pumpChannel 0 ∧
      s.found.channels[16].mode = .auto ∧ s.found.stations[2].pump = some 0 ∧ (running 2 s).found.stations[2].runRemaining ≠ none ∧
      s.found.stations[2].runRemaining = none ∧ (∀ st : StationNo, s.found.stations[st].pump ≠ some 1) ∧ s.found.channels[2].mode = .auto ∧
      s.found.channels[3].mode = .manual ∧ s.found.channels[4].mode = .off ∧ s.stations[2].pattern.val = (0 : Fin 7).val + 1 ∧
      s.stations[3].pattern = 0 := by
  refine ⟨rfl, ?_⟩; decide +kernel

theorem witness_ExpiredOrdersFaultTheCarriage :
    let s := riding .toSource 0 (some (.goto 2)) (hung film site)
    exec .beat s = .next (after .beat s) ∧ FollowUp.expiry .one ∈ { s with due := [.expiry .one] }.due ∧ (s.carriage .one).order.isSome ∧
      FollowUp.expiry .two ∉ s.due ∧ 0 ≤ beatDiff (1099 + 1) 1100 ∧ ¬0 ≤ beatDiff (1098 + 1) 1100 := by
  refine ⟨rfl, ?_⟩; decide +kernel

/-- Over the destination and away from it. -/
theorem witness_DrainsEndInTravel : ∀ p ∈ [(3 : Int), 2],
    let s := { riding .draining p none (hung film site) with due := [.drain .one] }
    FollowUp.drain .one ∈ s.due ∧ (s.carriage .one).state = .draining ∧ s.lineState ≠ .stopped ∧ (s.carriage .one).job.isSome ∧
      (s.carriage .one).position = some p ∧ FollowUp.drain .two ∉ s.due := by decide +kernel

/-- The dose one short of the target, at it, at the allowance of 153 above it and one further. -/
theorem witness_ArrivedAtTheSource : ∀ dose ∈ [7679, 7680, 7833, 7834],
    let s := riding .toSource 0 (some (.goto 2)) (hung { film with dose := dose } site)
    ((s.heard .one).carriage .one).state = .toSource ∧
      ((s.heard .one).carriage .one).job = some ⟨0, .exactDose, 1200, ⟨2, 0⟩, ⟨3, 0⟩, .toSource, none⟩ ∧
      ((s.heard .one).carriage .one).order = some ⟨.goto 2, 1100⟩ ∧
      (s.heard .one).hangers[0] = some { film with dose := dose } ∧ (s.heard .one).legKind film = some .exactDose ∧
      7680 * (s.heard .one).params.tolerance / 1000 = 153 := by
  decide +kernel

/-- Carriage 2 sent to its park. -/
def yielding (s : State) : State :=
  { s with carriage2 := { state := .yielding, position := some 9, span := some ⟨9, 16⟩, order := some ⟨.park, 1100⟩ } }

theorem witness_ArrivalsAtDestinationAndPark :
    let s := riding .toDest 2 (some (.goto 3)) (hung film site)
    let y := yielding paused
    ((s.heard .one).carriage .one).state ≠ .toSource ∧
      ((s.heard .one).carriage .one).job = some ⟨0, .exactDose, 1200, ⟨2, 0⟩, ⟨3, 0⟩, .toDest, none⟩ ∧
      ((s.heard .one).carriage .one).order = some ⟨.goto 3, 1100⟩ ∧
      ((y.heard .two).carriage .two).order = some ⟨.park, 1100⟩ ∧ y.lineState ≠ .run := by decide +kernel

/-- A record on its way, from the leg it leaves. -/
def lifted (leg : Nat) : Hanger := { film with leg := leg, state := .inTransit, position := none, destination := some ⟨3, 0⟩ }

/-- A drain of 24 beats; no drain, over the destination and away from it; the source bay to be disabled and not. -/
theorem witness_LiftedFreesTheBay : ∀ p ∈ [(2 : Int), 3], ∀ leg ∈ [1, 2], ∀ out ∈ [true, false],
    let s := (riding .lifting p (some (.lift 0)) (hung (lifted leg) site)).setBay ⟨2, 0⟩ ⟨.occupied 0, out⟩
    ((s.heard .one).carriage .one).state = .lifting ∧ ((s.heard .one).carriage .one).position = some p ∧
      ((s.heard .one).carriage .one).job = some ⟨0, .exactDose, 1200, ⟨2, 0⟩, ⟨3, 0⟩, .lifting, none⟩ ∧
      ((s.heard .one).carriage .one).order = some ⟨.lift 0, 1100⟩ ∧ (s.heard .one).hangers[0] = some (lifted leg) ∧
      (((s.heard .one).legStep (lifted leg)).map Machine.Step.drain) = some (if leg = 1 then 24 else 0) ∧
      ((s.heard .one).bayAt ⟨2, 0⟩).deferred = out := by decide +kernel

/-- A next leg that develops, one that does not, and the unload leg; a bath just above its floor by the loss, and one below. -/
theorem witness_LoweredBeginsTheLeg : ∀ leg ∈ [0, 1, 3], ∀ activity ∈ [518, 517],
    let s := (riding .lowering 3 (some (.lower 0)) (hung (lifted leg) site)).setStation 3
      { site.stations[3] with cls := .develop, activity := activity, accumulator := 199, pendingRuns := 3 }
    ((s.heard .one).carriage .one).job = some ⟨0, .exactDose, 1200, ⟨2, 0⟩, ⟨3, 0⟩, .lowering, none⟩ ∧
      ((s.heard .one).carriage .one).order = some ⟨.lower 0, 1100⟩ ∧ (s.heard .one).hangers[0] = some (lifted leg) ∧
      (lifted leg).destination = some ⟨3, 0⟩ ∧
      (((s.heard .one).stepsOf (lifted leg))[leg]?.map Machine.Step.kind) =
        (if leg = 0 then some .exactDose else if leg = 1 then some .timed else none) ∧
      ((s.heard .one).stations[3]).cls = .develop ∧ ((lifted leg).area * 64 + 512) / 1024 = 6 ∧
      (activity = 518 → 512 + 6 ≤ ((s.heard .one).stations[3]).activity) ∧
      (activity = 517 → ((s.heard .one).stations[3]).activity < 512 + 6) ∧ 3 < 3 + (199 + (lifted leg).area) / 200 ∧
      ((s.heard .one).stations[2]).cls = .develop := by decide +kernel

/-- Carriages in each of the quiet states, and one on its way to station 2 that hears of another station, of the park and of bays. -/
theorem witness_ReportsOutOfPlaceStopTheCarriage :
    (∀ x ∈ [CarriageState.unplaced, .disabled, .fault, .halted],
      let s := { site with carriage1 := { site.carriage1 with state := x } }
      ((s.heard .one).carriage .one).state = x ∧ ((s.heard .one).carriage .one).order = none) ∧
    let s := riding .toSource 0 (some (.goto 2)) (hung film site)
    ((s.heard .one).carriage .one).state = .toSource ∧ ((s.heard .one).carriage .one).order = some ⟨.goto 2, 1100⟩ ∧
      (3 : Byte).toNat ≠ (2 : StationNo).val ∧ (4 : Byte).toNat = 4 ∧ (15 : Byte).toNat = 15 ∧ 15 < (16 : Byte).toNat ∧
      (3 : Byte).toNat < 4 := by decide +kernel

/-- Three requests, of two classes, the last two with one deadline beyond the wrap of the beat counter. -/
theorem witness_TheQueueHasOneOrder :
    let a : Request := ⟨5, .exactDose, 4294967295, ⟨2, 0⟩, none⟩
    let b : Request := ⟨0, .timed, 3, ⟨2, 1⟩, none⟩
    let c : Request := ⟨1, .timed, 3, ⟨2, 2⟩, none⟩
    a.slot ≠ b.slot ∧ requestAhead 4294967290 a b = true ∧ requestAhead 4294967290 b c = true ∧
      ({ site with queue := [b, c, a] }.queue.map Request.slot).Nodup := by decide +kernel

/-- A bay of the wash is free, and none is; on the last leg the unload station's bay is taken. -/
theorem witness_LodgingTakesTheNearestBay :
    let s := (hung film site).setBay ⟨3, 0⟩ ⟨.occupied 1, false⟩
    let last := (hung (opened 761) site).setBay ⟨8, 0⟩ ⟨.occupied 1, false⟩
    (hung film site).chooseBay film 2 = some ⟨3, 0⟩ ∧ (hung film site).hangers[0] = some film ∧ film.position = some ⟨2, 0⟩ ∧
      (hung film site).queue = [] ∧ s.chooseBay film 2 = none ∧ s.hangers[0] = some film ∧ s.queue = [] ∧
      last.chooseBay (opened 761) 2 = none ∧ last.hangers[0] = some (opened 761) ∧ (opened 761).position = some ⟨2, 0⟩ ∧
      (opened 761).leg = (last.stepsOf (opened 761)).length := by decide +kernel

/-- Two hangers that wait for the wash, the one on its EXACT leg ahead, and one that waits for the unload station. -/
def queued : State := { site with
  hangers := ((site.hangers.set 0 (some film)).set 1 (some film)).set 2 (some (opened 761))
  queue := [⟨0, .exactDose, 1200, ⟨2, 0⟩, none⟩, ⟨1, .timed, 1000, ⟨2, 1⟩, none⟩, ⟨2, .openEnded, 900, ⟨3, 0⟩, none⟩] }

/-- A bay of the wash that is EMPTY, which two requests fit, and the one of the EXACT leg takes; the bay taken; a bay of the unload station,
which the unload-leg request fits; one of the load station, which none fits. -/
theorem witness_offers :
    ((queued.bayAt ⟨3, 0⟩).state = .empty ∧ (queued.bayAt ⟨8, 0⟩).state = .empty ∧ (queued.bayAt ⟨0, 0⟩).state = .empty ∧
      ((queued.setBay ⟨3, 0⟩ ⟨.occupied 5, false⟩).bayAt ⟨3, 0⟩).state ≠ .empty ∧
      queued.hangers[0] = some film ∧ queued.hangers[2] = some (opened 761) ∧
      (opened 761).leg = (queued.stepsOf (opened 761)).length) ∧
    queued.takesBay 3 ⟨0, .exactDose, 1200, ⟨2, 0⟩, none⟩ ∧
    { queued with queue := [⟨2, .openEnded, 900, ⟨3, 0⟩, none⟩] }.takesBay 8 ⟨2, .openEnded, 900, ⟨3, 0⟩, none⟩ ∧
    ∀ q ∈ queued.queue, ¬queued.fitsBay 0 q := by
  have ahead : ∀ q ∈ queued.queue, requestAhead queued.beat q ⟨0, .exactDose, 1200, ⟨2, 0⟩, none⟩ = false := by decide +kernel
  have wash : queued.stations[(3 : StationNo)].cls = .wash := by decide +kernel
  have unload : (opened 761).leg = (queued.stepsOf (opened 761)).length ∧ queued.stations[(8 : StationNo)].cls = .unload := by
    decide +kernel
  refine ⟨by decide +kernel, ⟨by decide +kernel, ⟨rfl, film, by decide +kernel, wash⟩, fun q hq _ => ahead q hq⟩,
    ⟨by decide +kernel, ⟨rfl, opened 761, by decide +kernel, unload⟩, fun q hq _ => ?_⟩, ?_⟩
  · obtain rfl : q = ⟨2, .openEnded, 900, ⟨3, 0⟩, none⟩ := by simpa using hq
    decide +kernel
  · rintro q hq ⟨-, h, e, l⟩
    have known : ∀ slot : Slot, ∀ g ∈ queued.hangers[slot], g = film ∨ g = opened 761 := by decide +kernel
    obtain rfl | rfl := known q.slot h e
    · have l' : queued.stations[(0 : StationNo)].cls = .wash := l
      revert l'; decide +kernel
    · have l' : (opened 761).leg = (queued.stepsOf (opened 761)).length ∧ queued.stations[(0 : StationNo)].cls = .unload := l
      revert l'; decide +kernel

/-- Carriage 1 alone can serve stations 2 to 3; either can serve 7 to 8 and carriage 1 is nearer; both stand 8 from station 8; carriage 1
stands at the source; no carriage can serve 2 to 3 where the spans stand in the way. A request from 4 to 7 is blocked for carriage 1 at
5 by carriage 2, IDLE at 6; one from 2 to 3 for carriage 2, PARKED with a span to 3 as no run leaves it, by carriage 1, IDLE at 2; with
no request none is blocked. -/
theorem witness_GrantsGoToTheNearerCarriage :
    (let s := { site with
      carriage1 := { site.carriage1 with state := .idle, position := some 5, span := some ⟨5, 5⟩ }
      carriage2 := { site.carriage2 with state := .idle, position := some 6, span := some ⟨6, 6⟩ }
      queue := [⟨0, .timed, 1200, ⟨4, 0⟩, some ⟨7, 0⟩⟩] }
    let u := s.queueOrder.foldl State.consider s
    s.lineState = .run ∧ (u.carriage .one).state = .idle ∧ (u.carriage .two).state = .idle ∧ (u.carriage .two).position = some 6 ∧
      u.queueOrder.find? (fun q => q.destination.isSome) = some ⟨0, .timed, 1200, ⟨4, 0⟩, some ⟨7, 0⟩⟩ ∧
      (u.carriage .one).position = some 5 ∧ u.carriage2.span = some ⟨6, 6⟩ ∧ ¬max (5 : Int) (max 4 7) < 6) ∧
    (let s := { site with
      carriage1 := { site.carriage1 with state := .idle, position := some 2, span := some ⟨2, 2⟩ }
      carriage2 := { site.carriage2 with span := some ⟨3, 16⟩ }
      queue := [⟨0, .timed, 1200, ⟨2, 0⟩, some ⟨3, 0⟩⟩] }
    let u := s.queueOrder.foldl State.consider s
    s.lineState = .run ∧ (u.carriage .two).state = .parked ∧ (u.carriage .one).state = .idle ∧ (u.carriage .one).position = some 2 ∧
      u.queueOrder.find? (fun q => q.destination.isSome) = some ⟨0, .timed, 1200, ⟨2, 0⟩, some ⟨3, 0⟩⟩ ∧
      (u.carriage .two).position = some 16 ∧ u.carriage1.span = some ⟨2, 2⟩ ∧ ¬2 < min (16 : Int) (min 2 3)) ∧
    ((site.queueOrder.foldl State.consider site).queueOrder.find? fun q => q.destination.isSome) = none ∧
    let at1 := fun (p : Int) => { site with carriage1 := { site.carriage1 with state := .idle, position := some p, span := some ⟨p, p⟩ } }
    let r : Request := ⟨0, .timed, 1200, ⟨2, 0⟩, some ⟨3, 0⟩⟩
    r.destination = some ⟨3, 0⟩ ∧ (site.carriage .one).position = some (-1) ∧ (site.carriage .one).state = .parked ∧
      (∀ w ∈ site.carriage2.span, max (-1 : Int) (max 2 3) < w.lo) ∧ (site.carriage .two).position = some 16 ∧
      (∀ w ∈ site.carriage1.span, w.hi < min (16 : Int) (min 2 3)) ∧ ((-1 : Int) - 2).natAbs < ((16 : Int) - 2).natAbs ∧
      ((0 : Int) - 8).natAbs = ((16 : Int) - 8).natAbs ∧ ((at1 0).carriage .one).position = some 0 ∧
      ((at1 2).carriage .one).position = some 2 ∧ (at1 2).carriage1.state = .idle ∧
      { site with carriage1 := { site.carriage1 with state := .fault }, carriage2 := { site.carriage2 with state := .disabled } }.carriage1.state
        ≠ .idle := by decide +kernel

/-- Each way in which the line state moves. -/
theorem witness_LineStateMovesByItsRules :
    (exec (.startLine 0 []) config = .next (after (.startLine 0 []) config) ∧ (after (.startLine 0 []) config).lineState ≠ config.lineState) ∧
    (exec (.stopLine 0 []) site = .next (after (.stopLine 0 []) site) ∧ (after (.stopLine 0 []) site).lineState ≠ site.lineState) ∧
    (exec (.pauseLine 0 []) site = .next (after (.pauseLine 0 []) site) ∧ (after (.pauseLine 0 []) site).lineState ≠ site.lineState) ∧
    (exec (.resume 0 []) stopped = .next (after (.resume 0 []) stopped) ∧ (after (.resume 0 []) stopped).lineState ≠ stopped.lineState) ∧
    (exec .lineStopActive site = .next (after .lineStopActive site) ∧ (after .lineStopActive site).lineState ≠ site.lineState) ∧
    exec .reset site = .next (after .reset site) ∧ (after .reset site).lineState ≠ site.lineState := by
  refine ⟨⟨rfl, ?_⟩, ⟨rfl, ?_⟩, ⟨rfl, ?_⟩, ⟨rfl, ?_⟩, ⟨rfl, ?_⟩, rfl, ?_⟩ <;> decide +kernel

/-- Carriage 1 over its source, with a job, in PAUSED. -/
theorem witness_NoGrantOutsideRun :
    let s := riding .toSource 0 (some (.goto 2)) (hung film paused)
    exec (.arrived .one 2) s = .next (after (.arrived .one 2) s) ∧ s.lineState ≠ .run ∧ (after (.arrived .one 2) s).lineState ≠ .run ∧
      ((after (.arrived .one 2) s).carriage .one).job.isSome := by
  refine ⟨rfl, ?_⟩; decide +kernel

theorem witness_ChangedRecordsAreMarked :
    let s := hung (opened 761) site
    exec (.hold 0 [0]) s = .next (after (.hold 0 [0]) s) ∧ s.due = [] ∧ s.hangers[0] = some (opened 761) ∧
      (after (.hold 0 [0]) s).hangers[0] = some { opened 761 with held := true } ∧ true ≠ (opened 761).held := by
  refine ⟨rfl, ?_⟩; decide +kernel

/-- Film of tags 5 and 6, DUE in the developer, to the wash and to the unload station. -/
def called : Hanger := { film with state := .due, destination := some ⟨3, 0⟩ }
def waiting : Hanger := { film with tag := 6, state := .due, position := some ⟨2, 1⟩, destination := some ⟨8, 0⟩ }

/-- A small line on which every invariant holds that is not the part after reset: film in the developer, one service begun, a channel
on, a job under way, and a request that no carriage can be granted. -/
def safe : State :=
  let s := ((riding .toSource (-1) (some (.goto 2)) (hung called site)).setHanger 1 (some waiting)).setBay ⟨2, 1⟩ ⟨.occupied 1, false⟩
  { s.setBay ⟨8, 0⟩ ⟨.reserved 1, false⟩ with
    tagIndex := [(5, 0), (6, 1)]
    banks := s.banks.set 1 { s.banks[1] with useCount := 2 }
    queue := [⟨1, .exactDose, 1300, ⟨2, 1⟩, some ⟨8, 0⟩⟩]
    carriage1 := { s.carriage1 with span := some ⟨-1, 3⟩ }
    channels := s.channels.set 2 ⟨.auto, true, true, true⟩
    mask := 2
    maskStack := [4, 7]
    pending := [.lifted .one 0] }

theorem witness_StepsKeepTheStopInForce : safe.outputsSafe ∧ safe.stoppedQuiet ∧ { safe with
    lineState := .stopped, carriage1 := { safe.carriage1 with order := none } }.stoppedQuiet ∧
    step safe = .next (after (.lifted .one 0) { safe with pending := [] }) :=
  ⟨by unfold State.outputsSafe; decide +kernel, by unfold State.stoppedQuiet; decide +kernel,
    by unfold State.stoppedQuiet; decide +kernel, rfl⟩
/-- Slots 0 and 3 have OVERSTAY, station 2 SENSOR_STALE and carriage 2 its fault. -/
def marked (s : State) : State := (((s.mark .overstay 3).mark .overstay 0).mark .sensorStale 2).mark .carriageFault 2
theorem witness_StepsKeepTheMasksNested : safe.masksNest ∧ (marked safe).marksInOrder := by
  refine ⟨by unfold State.masksNest; decide +kernel, fun k => ⟨?_, ?_⟩⟩
  · cases k <;> decide +kernel
  · cases k <;> dsimp only [Kind.subject] <;> decide +kernel
/-- A line with a step in its load area and with two requests. -/
def counted : State := { safe with
  loadArea := some ⟨2, 2, [⟨.wash, none, .timed, 16383, 16383, 255⟩]⟩
  queue := [⟨0, .exactDose, 1200, ⟨2, 0⟩, some ⟨3, 0⟩⟩, ⟨1, .launch, 1000, ⟨0, 0⟩, none⟩] }
theorem witness_StepsKeepTheCountsInRange : counted.countsInRange := by
  refine ⟨by decide +kernel, ?_, ?_, ?_, ?_, ?_, ?_, ?_, by decide +kernel, ?_, ?_⟩
  · unfold Station.inRange
    exact (by decide +kernel : ∀ st : StationNo, 1 ≤ counted.stations[st].bayCount ∧ counted.stations[st].bayCount ≤ 4 ∧
      (∀ n ∈ counted.stations[st].latest, n ≤ 1023) ∧ (∀ n ∈ counted.stations[st].heldValue, n ≤ 1022) ∧
      counted.stations[st].age ≤ 255 ∧ 512 ≤ counted.stations[st].activity ∧ counted.stations[st].activity ≤ 1024 ∧
      counted.stations[st].deficit ≤ 65535 ∧ (0 < counted.stations[st].deficit → counted.stations[st].activity = 512) ∧
      counted.stations[st].exhaust ≤ 4095 ∧ counted.stations[st].accumulator ≤ 4094 ∧ 1 ≤ counted.stations[st].quantum ∧
      counted.stations[st].quantum ≤ 4095 ∧ 1 ≤ counted.stations[st].runLength ∧ counted.stations[st].runLength ≤ 255 ∧
      counted.stations[st].restore ≤ 512 ∧ counted.stations[st].pendingRuns ≤ 3 ∧
      ∀ k ∈ counted.stations[st].runRemaining, 1 ≤ k ∧ k ≤ 255)
  · unfold Hanger.inRange
    exact (by decide +kernel : ∀ slot : Slot, ∀ h ∈ counted.hangers[slot], 1 ≤ h.tag ∧ h.tag ≤ 4095 ∧ -50 ≤ h.push ∧ h.push ≤ 200 ∧
      h.area ≤ 4095 ∧ h.leg ≤ 13 ∧ (h.destination ≠ none → h.leg ≤ 12) ∧ h.dose ≤ 16777215 ∧ h.fraction < 262144 ∧
      (∀ n ∈ h.target, 8 ≤ n ∧ n ≤ 786384) ∧ ∀ n ∈ h.overshoot, n ≤ 16777215)
  · unfold Bank.inRange Step.storable; decide +kernel
  · rintro a ⟨⟩; unfold LoadArea.inRange Step.storable; decide +kernel
  · unfold State.queueInRange; decide +kernel
  · exact fun n h => nomatch (h : (none : Option Nat) = some n)
  · exact fun n h => nomatch (h : (none : Option Nat) = some n)
  · unfold Pattern.inRange; decide +kernel
  · unfold LineParams.inRange; decide +kernel
theorem witness_StepsKeepTheTableInAgreement : safe.tableAgrees := by
  have only : ∀ slot : Slot, ∀ h ∈ safe.hangers[slot], (h.tag, slot) ∈ safe.tagIndex := by decide +kernel
  have index : safe.tagIndex = [(5, 0), (6, 1)] := by decide +kernel
  refine ⟨by decide +kernel, fun tag slot => ⟨fun found => ?_, ?_⟩, by decide +kernel⟩
  · rw [index] at found
    obtain ⟨rfl, rfl⟩ | ⟨rfl, rfl⟩ : (tag = 5 ∧ slot = 0) ∨ (tag = 6 ∧ slot = 1) := by simpa using found
    · exact ⟨called, by decide +kernel, by decide +kernel⟩
    · exact ⟨waiting, by decide +kernel, by decide +kernel⟩
  · rintro ⟨h, live, rfl⟩
    exact only slot h live
theorem safe_movesAgree : safe.movesAgree := by
  have job : ∀ c j, (safe.carriage c).job = some j → j = ⟨0, .exactDose, 1200, ⟨2, 0⟩, ⟨3, 0⟩, .toSource, none⟩ := by
    rintro (_ | _) j h
    · exact (Option.some.inj h).symm
    · exact nomatch (h : (none : Option Job) = some j)
  refine ⟨⟨by decide +kernel, fun q h => ?_, fun j k _ h => (nomatch (h : (none : Option Job) = some k)), fun c j h => ?_, ?_⟩,
    fun j h => ?_, fun j h => (nomatch (h : (none : Option Job) = some j)), ?_, fun h => absurd h (by decide +kernel)⟩
  · obtain rfl := List.mem_singleton.1 h
    exact ⟨fun c j h => by rw [job c j h]; decide, waiting, by decide +kernel, rfl, .inr rfl⟩
  · obtain rfl := job c j h
    exact ⟨called, by decide +kernel, rfl, .inl (.inr rfl)⟩
  · have two : ∀ slot : Slot, ∀ h ∈ safe.hangers[slot], slot = 1 ∨ slot = 0 := by decide +kernel
    intro slot h live _
    obtain rfl | rfl := two slot h live
    · exact .inl ⟨_, List.mem_singleton_self _, rfl⟩
    · exact .inr ⟨.one, _, rfl, rfl⟩
  · obtain rfl := job .one j h
    refine ⟨by decide, .inl rfl, ?_⟩
    rintro (⟨b, h⟩ | ⟨h, -⟩)
    · exact absurd (Option.some.inj h) (by simp)
    · exact absurd h (by decide +kernel)
  · exact (by decide +kernel : ∀ slot : Slot, ∀ h ∈ safe.hangers[slot], h.held = true →
      h.state = .admitted ∨ (h.state = .immersed ∧ safe.legKind h = some .openEnded))
theorem safe_railOrder : safe.railOrder := by
  refine ⟨?_, ⟨?_, ?_, ?_, ?_⟩, ?_, ?_, ?_, ?_⟩
  · intro a b h k
    obtain rfl : (⟨-1, 3⟩ : Span) = a := Option.some.inj h
    obtain rfl : (⟨16, 16⟩ : Span) = b := Option.some.inj k
    decide
  · exact (by decide +kernel : ∀ w ∈ safe.carriage1.span, lowestOf .one ≤ w.lo ∧ w.lo ≤ w.hi ∧ w.hi ≤ highestOf .one)
  · exact fun h => absurd h (by decide +kernel)
  · intro j h
    obtain rfl : (⟨0, .exactDose, 1200, ⟨2, 0⟩, ⟨3, 0⟩, .toSource, none⟩ : Job) = j := Option.some.inj h
    exact ⟨⟨_, rfl, by decide, by decide⟩, ⟨_, rfl, by decide, by decide⟩, by decide, by decide⟩
  · rintro (⟨b, h⟩ | ⟨h, -⟩)
    · exact absurd (Option.some.inj h) (by simp)
    · exact absurd h (by decide +kernel)
  · exact (by decide +kernel : ∀ w ∈ safe.carriage2.span, lowestOf .two ≤ w.lo ∧ w.lo ≤ w.hi ∧ w.hi ≤ highestOf .two)
  · exact fun _ => ⟨rfl, rfl, 16, rfl, rfl⟩
  · exact fun j h => nomatch (h : (none : Option Job) = some j)
  · rintro (⟨b, h⟩ | ⟨h, -⟩)
    · exact nomatch (h : (none : Option Outstanding) = some _)
    · exact absurd h (by decide +kernel)
/-- ARRIVED in RUN where the moves agree, below the target, with a request of another slot in the queue. -/
theorem witness_ArrivedAtTheSource_moves : (safe.heard .one).lineState = .run ∧ (safe.heard .one).movesAgree ∧
    ((safe.heard .one).carriage .one).state = .toSource ∧
    ((safe.heard .one).carriage .one).job = some ⟨0, .exactDose, 1200, ⟨2, 0⟩, ⟨3, 0⟩, .toSource, none⟩ ∧
    ((safe.heard .one).carriage .one).order = some ⟨.goto 2, 1100⟩ ∧ (safe.heard .one).hangers[0] = some called ∧
    called.target = some 7680 ∧ called.dose < 7680 ∧ ∀ q ∈ (safe.heard .one).queue, q.slot ≠ 0 := by
  refine ⟨by decide +kernel, safe_movesAgree, ?_⟩; decide +kernel
/-- In RUN, with a request from the developer that carriage 1's job keeps carriage 2 from. -/
theorem witness_StepsKeepTheRailInOrder : (safe.tableAgrees ∧ safe.movesAgree) ∧ safe.railSafe ∧ safe.lineState = .run ∧
    step safe = .next (after (.lifted .one 0) { safe with pending := [] }) :=
  have rest : safe.arbiterAtRest := fun _ => (by decide +kernel : ∀ q ∈ safe.queue, ∀ d ∈ q.destination,
    safe.taker q.source.station d.station = none)
  ⟨⟨witness_StepsKeepTheTableInAgreement, safe_movesAgree⟩,
    ⟨witness_StepsKeepTheTableInAgreement, safe_movesAgree, rest, safe_railOrder⟩, rfl, rfl⟩

/-! Of the host's commands: with `witness_listening`, operands at the ends of each range and a state for each clause. The state of a take
of `n` bytes on these lines is `takeFrame n`, which settles nothing there. -/

/-- The small line's marks stand in order; slot 0 has a record and slot 1 none; pump 0 is station 2's and pump 1 no station's. -/
theorem witness_ReadsAnswerAndChangeNothing : (([0] : List Byte) ≠ [] ∧ ((0x45 : Byte), Instr.readMarks 0 full) ∈
      [((0x01 : Byte), Instr.identify 0 full), (0x02, .readLine 0 full), (0x1A, .readSteps 0 full), (0x1D, .readRateTable 0 full),
        (0x29, .readQueue 0 full), (0x3C, .readOutputs 0 full), (0x45, .readMarks 0 full)] ∧
    (∀ i : StationNo, ([16] : List Byte) ≠ [byte i.val]) ∧ ([0] : List Byte) ≠ [1] ∧ ([3] : List Byte) ≠ [2]) ∧
    ((site.takeFrame 3).stations[2].pump = some 0 ∧ (∀ j : StationNo, (site.takeFrame 3).stations[j].pump = some 0 → 2 ≤ j) ∧
      (∀ j : StationNo, (site.takeFrame 3).stations[j].pump ≠ some 1) ∧ (hung film site).hangers[0] = some film ∧
      (hung film site).hangers[1] = none) ∧
    ((marked site).takeFrame 3).marksInOrder := by
  refine ⟨by decide, by decide +kernel, fun k => ⟨?_, ?_⟩⟩
  · cases k <;> decide +kernel
  · cases k <;> dsimp only [Kind.subject] <;> decide +kernel

/-- Tags 0, 1, 4095 and 4096; a tag that is held and one that is not; stations 15, 16 and any; banks 31 and 32; counts 0, 1, 48, 49. -/
theorem witness_TheTableIsReadAsItStands :
    ((hung film site).takeFrame 5).slotOfTag 5 = some 0 ∧ ((hung film site).takeFrame 5).slotOfTag 4095 = none ∧
    (0x00 : Byte).toNat * 256 + (0x01 : Byte).toNat = 1 ∧ (0x0F : Byte).toNat * 256 + (0xFF : Byte).toNat = 4095 ∧
    (0x10 : Byte).toNat * 256 + (0x00 : Byte).toNat = 4096 ∧ (15 : Byte).toNat ≤ 15 ∧ 15 < (16 : Byte).toNat ∧ (16 : Byte) ≠ 0xFF ∧
    (31 : Byte).toNat ≤ 31 ∧ 31 < (32 : Byte).toNat ∧ (32 : Byte) ≠ 0xFF ∧ 1 ≤ (1 : Byte).toNat ∧ (48 : Byte).toNat ≤ 48 ∧
    48 < (49 : Byte).toNat ∧ full.length ≠ 2 ∧ full.length ≠ 5 := by decide +kernel

/-- The line in each state; the LINE STOP input in both; no load and no unload station; each carriage not placed; one hanger and none. -/
theorem witness_LineCommandsMoveTheLine :
    (config.takeFrame 3).lineState = .config ∧ (site.takeFrame 3).lineState = .run ∧ (paused.takeFrame 3).lineState = .paused ∧
    (stopped.takeFrame 3).lineState = .stopped ∧ (config.takeFrame 3).stopActive = false ∧
    ({ config with stopActive := true }.takeFrame 3).stopActive = true ∧
    (∃ st : StationNo, (config.takeFrame 3).stations[st].cls = .load) ∧ (∃ st : StationNo, (config.takeFrame 3).stations[st].cls = .unload) ∧
    (∀ st : StationNo, (State.reset.takeFrame 3).stations[st].cls ≠ .load) ∧
    (∀ st : StationNo, ((config.setStation 8 {}).takeFrame 3).stations[st].cls ≠ .unload) ∧
    (config.takeFrame 3).carriage1.state = .parked ∧ (config.takeFrame 3).carriage2.state = .parked ∧
    ({ config with carriage1 := {} }.takeFrame 3).carriage1.state = .unplaced ∧
    ({ config with carriage2 := {} }.takeFrame 3).carriage2.state = .unplaced ∧
    0 < ((hung film site).takeFrame 3).liveCount ∧ (site.takeFrame 3).liveCount = 0 := by decide +kernel

/-- A line that stopped, with carriage 1 in a state of its job. -/
def halted (x : CarriageState) (o : Option Order) (drain : Option Beat) (dose : Nat) : State :=
  let s := riding x 2 none (hung { film with dose := dose } stopped)
  { s with carriage1 := { s.carriage1 with
      halted := o, job := some ⟨0, .exactDose, 1200, ⟨2, 0⟩, ⟨3, 0⟩, if x = .halted then .toSource else x, drain⟩ } }

/-- Each halted order; a dose one short of its target and at it; a drain that ended at this beat and one a beat ahead. -/
theorem witness_ResumeSettlesTheStoppedLine :
    (stopped.takeFrame 3).lineState = .stopped ∧ (stopped.takeFrame 3).stopActive = false ∧
    ({ stopped with stopActive := true }.takeFrame 3).stopActive = true ∧
    (∀ o ∈ [Order.goto 2, .park, .lift 0, .lower 0],
      (((halted .halted (some o) none 0).takeFrame 3).carriage .one).state = .halted ∧
      (((halted .halted (some o) none 0).takeFrame 3).carriage .one).halted = some o) ∧
    (((halted .awaitLift none none 7679).takeFrame 3).carriage .one).state = .awaitLift ∧
      ((halted .awaitLift none none 7679).takeFrame 3).doseReached 0 = false ∧
      ((halted .awaitLift none none 7680).takeFrame 3).doseReached 0 = true ∧
      ((halted .awaitLift none none 7680).takeFrame 3).hangers[0] = some { film with dose := 7680 } ∧
    (((halted .draining none (some 1000) 0).takeFrame 3).carriage .one).state = .draining ∧
      ((((halted .draining none (some 1000) 0).takeFrame 3).carriage .one).job.bind Job.drainEnd) = some 1000 ∧
      0 ≤ beatDiff 1000 1000 ∧ beatDiff 1000 1001 < 0 ∧ (stopped.takeFrame 3).beat = 1000 ∧
    ((stopped.takeFrame 3).carriage .two).state = .parked := by decide +kernel

/-- A line with 48 bays, 49 with one more. -/
def bays48 : State := { config with
  stations := ((((Vector.replicate 16 { cls := .wash, bayCount := 4 }).set 12 {}).set 13 {}).set 14 {}).set 15 {} }
theorem witness_StationsAreGivenTheirClass :
    (site.takeFrame 67).lineState ≠ .config ∧ (config.takeFrame 67).lineState = .config ∧ full.length ≠ 4 ∧
    (config.takeFrame 7).lineState = .config ∧ (15 : Byte).toNat = (15 : StationNo).val ∧ classOf 8 = some .unload ∧ classOf 9 = none ∧
    1 ≤ (1 : Byte).toNat ∧ (4 : Byte).toNat ≤ 4 ∧ (0 : Byte).toNat = 0 ∧ 4 < (5 : Byte).toNat ∧ (7 : Byte).toNat = (7 : PatternNo).val ∧
    8 ≤ (8 : Byte).toNat ∧ 16 ≤ (16 : Byte).toNat ∧
    ((allStations.map fun (i : StationNo) => if i = 11 then 4 else
      if (bays48.takeFrame 7).stations[i].cls = .unused then 0 else (bays48.takeFrame 7).stations[i].bayCount).sum) = 48 ∧
    48 < ((allStations.map fun (i : StationNo) => if i = 12 then 1 else
      if (bays48.takeFrame 7).stations[i].cls = .unused then 0 else (bays48.takeFrame 7).stations[i].bayCount).sum) ∧
    ((config.takeFrame 7).stations[2]).cls = .develop ∧ ((config.takeFrame 7).stations[3]).cls ≠ .develop := by decide +kernel

/-- A bay in each of its states; the bay beyond the count, and a bay of an unused station. -/
theorem witness_BayServiceIsSet :
    (∀ x ∈ [BayState.empty, .disabled, .reserved 0, .occupied 0],
      let s := (hung film site).setBay ⟨2, 1⟩ ⟨x, false⟩
      ((s.takeFrame 6).bayAt ⟨2, 1⟩).state = x ∧ (1 : BayNo).val < (s.takeFrame 6).stations[2].bayCount ∧
        (s.takeFrame 6).stations[2].cls ≠ .unused) ∧
    (site.takeFrame 6).stations[2].bayCount ≤ (2 : Byte).toNat ∧ (site.takeFrame 6).stations[15].cls = .unused ∧
    (1 : Byte).toNat ≤ 1 ∧ 1 < (2 : Byte).toNat ∧ (15 : Byte).toNat < 16 ∧ 16 ≤ (16 : Byte).toNat ∧ full.length ≠ 3 := by decide +kernel

/-- Activities 511, 512, 1024 and 1025; bath parameters at the ends of their ranges; a channel that another station has; a run on the old
channel with 2 and with 3 more pending. -/
theorem witness_BathsAreSet :
    (site.takeFrame 6).stations[2].cls = .develop ∧ (site.takeFrame 6).stations[3].cls ≠ .develop ∧ 16 ≤ (16 : Byte).toNat ∧
    (0x01 : Byte).toNat * 256 + (0xFF : Byte).toNat = 511 ∧ (0x04 : Byte).toNat * 256 + (0x01 : Byte).toNat = 1025 ∧
    (site.takeFrame 12).stations[2].cls = .develop ∧ (site.takeFrame 12).stations[3].cls ≠ .develop ∧
    (0x0F : Byte).toNat * 256 + (0xFF : Byte).toNat ≤ 4095 ∧ 4095 < (0x10 : Byte).toNat * 256 + (0x00 : Byte).toNat ∧
    1 ≤ (0x00 : Byte).toNat * 256 + (0x01 : Byte).toNat ∧ (0x00 : Byte).toNat * 256 + (0x00 : Byte).toNat = 0 ∧
    pumpByte (some 3) = 19 ∧ pumpByte none = 0xFF ∧ (255 : Byte) ≠ 0 ∧ (0x02 : Byte).toNat * 256 + (0x00 : Byte).toNat ≤ 512 ∧
    (∀ i : StationNo, ¬(i ≠ 2 ∧ (some 3 : Option PumpNo) ≠ none ∧ (site.takeFrame 12).stations[i].pump = some 3)) ∧
    (let s := (site.setStation 5 { cls := .develop }).takeFrame 12;
      s.stations[5].cls = .develop ∧ ((2 : StationNo) ≠ 5 ∧ (some 0 : Option PumpNo) ≠ none ∧ s.stations[2].pump = some 0) ∧
      ∀ i : StationNo, i ≠ 5 ∧ (some 0 : Option PumpNo) ≠ none ∧ s.stations[i].pump = some 0 → 2 ≤ i) ∧
    (∀ n ∈ [2, 3], ((pumping n).takeFrame 12).stations[2].cls = .develop ∧ ((pumping n).takeFrame 12).stations[2].runRemaining ≠ none ∧
      ((pumping n).takeFrame 12).stations[2].pump = some 0 ∧ ((pumping n).takeFrame 12).stations[2].pendingRuns = n ∧
      ((pumping n).takeFrame 12).channels[16] = ⟨.auto, true, true, true⟩ ∧ pumpChannel 0 = 16 ∧
      ∀ i : StationNo, ¬(i ≠ 2 ∧ (some 3 : Option PumpNo) ≠ none ∧ ((pumping n).takeFrame 12).stations[i].pump = some 3)) ∧
    16 ≤ (16 : Byte).toNat ∧ (15 : Byte) ≠ 0xFF ∧ (15 : Byte).toNat < 16 ∧ (20 : Byte) ≠ 0xFF ∧ 19 < (20 : Byte).toNat ∧
    512 < (0x02 : Byte).toNat * 256 + (0x01 : Byte).toNat ∧ full.length ≠ 9 := by decide +kernel

/-- Sensor timeouts 7 and 8; a bank that no record uses and one that a record uses; entries 63, 64, 1023 and 1024. -/
theorem witness_ParametersBanksAndRatesAreSet :
    (1 : Byte) ≠ 0 ∧ (7 : Byte).toNat < 8 ∧ ¬(8 : Byte).toNat < 8 ∧ full.length ≠ 6 ∧
    (site.takeFrame 3).banks[addressedBank 0x41 (site.takeFrame 3)].useCount = 0 ∧
    0 < ((hung film site).takeFrame 3).banks[addressedBank 0x41 ((hung film site).takeFrame 3)].useCount ∧ 32 ≤ (32 : Byte).toNat ∧
    full.length ≠ 1 ∧ full ≠ [] ∧ full.length ≠ 34 ∧
    (∀ i : Fin 17, (#v[63, 64, 1023, 1024, 0, 65535, 256, 256, 256, 256, 256, 256, 256, 256, 256, 256, 256] : Vector Nat 17)[i] < 65536) := by
  decide +kernel

/-- A load of one step, one of twelve begun with seven and one of twelve completed with five, for a bank in no use and one in use; a step
that comes out of its place. -/
theorem witness_RecipesAreLoadedWhole :
    let wash : Machine.Step := ⟨.wash, none, .timed, 16383, 16383, 255⟩
    let film12 : Machine.Step := ⟨.develop, some 15, .exactDose, 1, 0, 0⟩
    let s := { site with loadArea := some ⟨2, 12, List.replicate 7 wash⟩ }
    (wash.storable ∧ film12.storable) ∧ (1 ≤ 1 ∧ 0 + 1 ≤ 1 ∧ 0 + 7 ≤ 12 ∧ 7 + 5 ≤ 12) ∧
    (s.takeFrame 47).banks[addressedBank 0x42 (s.takeFrame 47)].useCount = 0 ∧
    (s.takeFrame 47).loadArea = some ⟨addressedBank 0x42 (s.takeFrame 47), 12, List.replicate 7 wash⟩ ∧
    (List.replicate 7 wash).length = 7 ∧ (site.takeFrame 47).loadArea = none ∧
    0 < ((hung film site).takeFrame 47).banks[addressedBank 0x41 ((hung film site).takeFrame 47)].useCount := by
  unfold Machine.Step.storable
  decide +kernel
/-- Of step images as bytes: lengths 9, 11 and 64; counts 0, 12 and 13; first steps 11 and 12; an image of class 8 after one that is well
formed; a well formed image of an OPEN step with a max overstay of 65535. -/
theorem witness_RecipesAreLoadedWhole_raw :
    let x : List Byte := [3, 0, 0x01, 0xE0, 0, 0, 0xFF, 24]
    let y : List Byte := [8, 1, 0, 1, 0, 0, 0xFF, 0]
    let z : List Byte := [7, 2, 0x3F, 0xFF, 0xFF, 0xFF, 15, 0]
    (full.tail.length ≤ 64 ∧ (full.length - 2) % 8 ≠ 0 ∧ ([] : List Byte).length < 10 ∧ 9 < 10 ∧ (11 - 2) % 8 ≠ 0) ∧
    ((∀ i ∈ [x, y, z], i.length = 8) ∧ 1 ≤ [x].length ∧ (List.replicate 7 x).length ≤ 7) ∧
    ((0 : Byte).toNat = 0 ∧ 12 < (13 : Byte).toNat ∧ (12 : Byte).toNat ≤ 12 ∧ 11 < (12 : Byte).toNat ∧ (11 : Byte).toNat ≤ 11 ∧
      (12 : Byte).toNat < (11 : Byte).toNat + 2 ∧ (11 : Byte).toNat + 1 ≤ (12 : Byte).toNat ∧ (11 : Byte) ≠ 0) ∧
    (7 < (8 : Byte).toNat ∧ [x, y][1]? = some y ∧ (List.range 1).map (fun j => [x, y][j]?) = [some x]) ∧
    (∀ i ∈ [x, z], 2 ≤ i.head!.toNat ∧ i.head!.toNat ≤ 7 ∧ i[1]!.toNat ≤ 2 ∧ (i[1]! = 0 ↔ i[0]! = 3) ∧
      0 < i[2]!.toNat * 256 + i[3]!.toNat ∧ i[2]!.toNat * 256 + i[3]!.toNat ≤ 16383 ∧ i[1]! ≠ 1 ∧
      (i[6]!.toNat ≤ 15 ∨ i[6]! = 0xFF)) := by decide +kernel

/-- Every slot taken. -/
def crowded : State := { paused with hangers := Vector.replicate 48 (some film) }
theorem witness_AdmissionCreatesTheRecord :
    let t := paused.takeFrame 9
    (0x00 : Byte).toNat * 256 + (0x01 : Byte).toNat = 1 ∧ (0x0F : Byte).toNat * 256 + (0xFF : Byte).toNat = 4095 ∧
    (0x10 : Byte).toNat * 256 + (0x00 : Byte).toNat = 4096 ∧ full.length ≠ 6 ∧
    (config.takeFrame 9).lineState = .config ∧ (stopped.takeFrame 9).lineState = .stopped ∧ (site.takeFrame 9).lineState = .run ∧
    ((site.takeFrame 9).queue.Pairwise fun a b => a.slot < b.slot) ∧ (site.takeFrame 9).queue.length ≤ 48 ∧
    t.lineState = .paused ∧ (∀ i : Slot, (crowded.takeFrame 9).hangers[i] ≠ none) ∧
    ((hung film paused).takeFrame 9).slotOfTag 5 = some 0 ∧ ((hung film paused).takeFrame 9).hangers[1] = none ∧
    (∀ i : Slot, i < 1 → ((hung film paused).takeFrame 9).hangers[i] ≠ none) ∧ t.slotOfTag 1 = none ∧ t.hangers[0] = none ∧
    t.banks[addressedBank 0x80 t].steps = [] ∧ t.banks[addressedBank 0x41 t].steps ≠ [] ∧
    (t.stations[2].cls = .develop ∧ t.stations[3].cls = .wash) ∧
    (∀ st : StationNo, ((paused.setStation 2 {}).takeFrame 9).stations[st].cls ≠ .develop) ∧
    t.stations[8].cls = .unload ∧ (∀ st : StationNo, ((paused.setStation 8 {}).takeFrame 9).stations[st].cls ≠ .unload) ∧
    (t.stations[0].cls = .load ∧ (0 : BayNo).val < t.stations[0].bayCount ∧ (t.bayAt ⟨0, 0⟩).state = .empty) ∧
    (∀ st : StationNo, t.stations[st].cls = .load → st = 0) ∧
    (∀ b : BayNo, (((paused.setBay ⟨0, 0⟩ ⟨.disabled, false⟩).setBay ⟨0, 1⟩ ⟨.disabled, false⟩).takeFrame 9).stations[0].bays[b].state = .empty →
      2 ≤ b) := by decide +kernel

/-- Records that are DONE, ADMITTED, removed and none of these, one with a bay reserved, and an empty slot. -/
theorem witness_RetirementEmptiesTheSlot :
    let gone : Hanger := { film with state := .faulted, position := none, faultReason := some .removed }
    let new : Hanger := { film with state := .admitted, destination := some ⟨3, 0⟩ }
    (((hung { film with state := .finished } paused).takeFrame 4).hangers[0] = some { film with state := .finished } ∧
      ((hung gone paused).takeFrame 4).hangers[0] = some gone ∧ ((hung new paused).takeFrame 4).hangers[0] = some new ∧
      ((hung new paused).takeFrame 4).carriage1.job = none ∧ ((hung new paused).takeFrame 4).carriage2.job = none ∧
      new.position = some ⟨2, 0⟩ ∧ new.destination = some ⟨3, 0⟩ ∧ film.state = .immersed ∧
      ((hung film paused).takeFrame 4).hangers[0] = some film) ∧
    ((hung film paused).takeFrame (4 + (List.replicate 63 (0 : Byte)).length)).hangers[0] = some film ∧
    (paused.takeFrame 4).hangers[47] = none ∧ 48 ≤ (48 : Byte).toNat ∧ (List.replicate 63 (0 : Byte)).length ≤ 63 := by decide +kernel

/-- No slot, slots 47 and 48, a vacant slot and a live one with payloads of another length. -/
theorem witness_slotForms : paused.listening = true ∧ ([] : List Byte).length ≤ 64 ∧ 48 ≤ (48 : Byte).toNat ∧
    ([byte (47 : Slot).val] : List Byte) = byte (47 : Slot).val :: [] ∧ (paused.takeFrame 4).hangers[47] = none ∧
    (((hung film paused).takeFrame (4 + (List.replicate 63 (0 : Byte)).length)).hangers[0]).isSome = true ∧
    (List.replicate 63 (0 : Byte)).length ≠ 5 ∧ (byte 0 :: List.replicate 63 (0 : Byte)).length ≤ 64 := by decide +kernel

/-- Records ADMITTED, IMMERSED and DUE on an OPEN leg, held and not; on an EXACT leg; DONE; and one that a carriage has as its job. -/
theorem witness_HoldKeepsTheHanger :
    (∀ x ∈ [HangerState.admitted, .immersed, .due, .inTransit, .finished, .faulted],
      let h := { opened 761 with state := x, destination := some ⟨3, 0⟩ }
      ((hung h paused).takeFrame 4).hangers[0] = some h ∧ ((hung h paused).takeFrame 4).legKind h = some .openEnded ∧ h.held = false) ∧
    (paused.takeFrame 4).carriage1.job = none ∧ (paused.takeFrame 4).carriage2.job = none ∧
    ((hung { opened 761 with held := true } paused).takeFrame 4).hangers[0] = some { opened 761 with held := true } ∧
    ((hung film paused).takeFrame 4).legKind film = some .exactDose ∧
    (((riding .toSource 0 none (hung film paused)).takeFrame 4).carriage1.job.map Job.slot) = some 0 := by decide +kernel

/-- At beat 1000 a minimum of 240 beats is reached by a leg begun at 760 and not by one begun at 761. -/
theorem witness_ReleaseLetsTheHangerGo :
    let at760 := { opened 760 with held := true }
    let new := { film with state := .admitted, held := true }
    ((hung film paused).takeFrame 4).hangers[0] = some film ∧ film.held = false ∧
    ((hung new paused).takeFrame 4).hangers[0] = some new ∧ ((hung at760 paused).takeFrame 4).hangers[0] = some at760 ∧
    ((hung at760 paused).takeFrame 4).legStep at760 = some ⟨.wash, some 3, .openEnded, 30, 0, 8⟩ ∧
    (paused.takeFrame 4).beat = 1000 ∧ (30 * 8 : Nat) ≤ beatDiff 1000 760 ∧ ¬(30 * 8 : Nat) ≤ beatDiff 1000 761 ∧
    (paused.takeFrame 4).lineState ≠ .run := by decide +kernel

/-- Change bytes 0, 1, 2 and 0xFC; a record on an EXACT leg with its dose one short of a target of 7680 and at it, and one that a carriage
awaits; a record that does not develop; a record DONE. -/
theorem witness_AmendWritesPushAndArea :
    (∀ dose ∈ [7679, 7680], ∀ x ∈ [HangerState.immersed, .due, .finished],
      let h := { film with dose := dose, state := x }
      ((hung h paused).takeFrame 9).hangers[0] = some h ∧ ((hung h paused).takeFrame 9).legKind h = some .exactDose ∧
        ((hung h paused).takeFrame 9).legStep h = some ⟨.develop, none, .exactDose, 480, 0, 24⟩) ∧
    (((480 : Int) * 16 * (100 + 0) + 50) / 100).toNat = 7680 ∧ (0xFC : Byte).toNat % 4 = 0 ∧ (1 : Byte).toNat % 4 ≠ 0 ∧
    (1 : Byte).toNat.testBit 0 = true ∧ (2 : Byte).toNat.testBit 0 = false ∧
    ((hung (opened 761) paused).takeFrame 9).legKind (opened 761) ≠ some .exactDose ∧
    (paused.takeFrame 9).carriage1.job = none ∧ (paused.takeFrame 9).carriage2.job = none ∧ (paused.takeFrame 9).lineState ≠ .run ∧
    (let s := (riding .awaitLift 2 none (hung { film with dose := 7680, state := .due } site)).takeFrame 9;
      (s.carriage .one).state = .awaitLift ∧ (s.carriage .one).job.map Job.slot = some 0 ∧ s.lineState ≠ .stopped) := by decide +kernel

/-- Doses 7679 and 7680 against a target of 7680; records without a target, in the states that are refused and on an OPEN leg. -/
theorem witness_DoseIsSetByHand :
    (∀ x ∈ [HangerState.immersed, .due, .finished],
      let h := { film with state := x }
      ((hung h paused).takeFrame 7).hangers[0] = some h ∧ h.target = some 7680 ∧
        ((hung h paused).takeFrame 7).legKind h = some .exactDose) ∧
    (0x00 : Byte).toNat * 65536 + (0x1D : Byte).toNat * 256 + (0xFF : Byte).toNat = 7679 ∧
    (0x00 : Byte).toNat * 65536 + (0x1E : Byte).toNat * 256 + (0x00 : Byte).toNat = 7680 ∧
    (paused.takeFrame 7).carriage1.job = none ∧ (paused.takeFrame 7).carriage2.job = none ∧ (paused.takeFrame 7).lineState ≠ .run ∧
    (∀ x ∈ [HangerState.immersed, .due, .admitted, .finished],
      let h := { opened 761 with state := x };
      ((hung h paused).takeFrame 7).hangers[0] = some h ∧ h.target = none ∧
        ((hung h paused).takeFrame 7).legKind h ≠ some .exactDose) ∧
    (let s := (riding .awaitLift 2 none (hung { film with state := .due } site)).takeFrame 7;
      (s.carriage .one).state = .awaitLift ∧ (s.carriage .one).job.map Job.slot = some 0 ∧ s.lineState ≠ .stopped) := by decide +kernel

/-- Payloads of other lengths, carriages 0 and 3, and positions 16 and 17 for carriage 1 and 0, 1, 17 and 18 for carriage 2. -/
theorem witness_placementForms : config.listening = true ∧ full.length ≠ 2 + 0 ∧ full.length ≠ 2 + 1 ∧ ([] : List Byte).length ≠ 2 + 0 ∧
    (0 : Byte) ≠ 1 ∧ (0 : Byte) ≠ 2 ∧ (3 : Byte) ≠ 1 ∧ (3 : Byte) ≠ 2 ∧ ¬16 < (16 : Byte).toNat ∧ 16 < (17 : Byte).toNat ∧
    (0 : Byte).toNat = 0 ∧ (1 : Byte).toNat ≠ 0 ∧ ¬17 < (17 : Byte).toNat ∧ 17 < (18 : Byte).toNat := by decide +kernel

/-- Carriage 2 at its limits 0 and 16, with carriage 1 at its park, 0 being clear of it, and then at station 0, 0 being not. -/
theorem witness_CarriagesAreSetInPlace :
    lowestOf .two ≤ 0 ∧ (16 : Int) ≤ highestOf .two ∧ lowestOf .one ≤ -1 ∧ (15 : Int) ≤ highestOf .one ∧
    (∀ w ∈ (config.takeFrame 5).carriage1.span, w.hi < 0) ∧
    (let s := { config with carriage1 := { config.carriage1 with state := .idle, position := some 0, span := some ⟨0, 0⟩ } };
      ∃ w ∈ (s.takeFrame 5).carriage1.span, ¬w.hi < 0) ∧
    (site.takeFrame 5).lineState ≠ .config ∧ (config.takeFrame 5).lineState = .config ∧
    (∀ x ∈ [CarriageState.unplaced, .parked, .idle, .disabled, .fault, .lifting],
      let s := { config with carriage2 := { state := x } }
      ((s.takeFrame 5).carriage .two).state = x ∧ ((s.takeFrame 6).carriage .two).state = x ∧
        ((s.takeFrame 6).carriage .two).job = none) := by
  refine ⟨by decide, by decide, by decide, by decide, by decide +kernel, ⟨⟨0, 0⟩, rfl, by decide⟩, ?_⟩
  decide +kernel

/-- Carriage 1 in FAULT with film of each kind of leg; its source bay EMPTY, its own and another's; a place clear of carriage 2 and not. -/
theorem witness_RecoverySettlesTheHanger :
    (∀ leg ∈ [0, 1, 2, 3], ∀ x ∈ [BayState.empty, .occupied 0, .reserved 1], ∀ out ∈ [true, false],
      let h := { lifted leg with state := .faulted, faultReason := some .carriageFault }
      let s := ((riding .fault 3 none (hung h paused)).setBay ⟨2, 0⟩ ⟨x, out⟩).takeFrame 6
      (s.carriage .one).state = .fault ∧ (s.carriage .one).job = some ⟨0, .exactDose, 1200, ⟨2, 0⟩, ⟨3, 0⟩, .fault, none⟩ ∧
        s.hangers[0] = some h ∧ s.lineState ≠ .run ∧ s.queue = [] ∧ h.destination ≠ some ⟨2, 0⟩ ∧ h.destination = some ⟨3, 0⟩ ∧
        (s.bayAt ⟨2, 0⟩).state = x ∧ (s.bayAt ⟨2, 0⟩).deferred = out ∧ s.legKind h = (if leg = 0 then none else if leg = 1 then some .exactDose else
          if leg = 2 then some .timed else some .openEnded) ∧
        ((s.stepsOf h)[leg]?.isNone = decide (leg = 3)) ∧ (∀ w ∈ (s.carriage .two).span, (15 : Int) < w.lo)) ∧
    (let s := (riding .fault 3 none site).takeFrame 6;
      s.lineState = .run ∧ (s.carriage .one).state = .fault ∧
        (s.carriage .one).job = some ⟨0, .exactDose, 1200, ⟨2, 0⟩, ⟨3, 0⟩, .fault, none⟩ ∧ (s.bayAt ⟨2, 0⟩).state = .empty) ∧
    (∃ w ∈ { paused with carriage2 := { paused.carriage2 with span := some ⟨15, 16⟩ } }.carriage2.span, ¬(15 : Int) < w.lo) ∧
    lowestOf .one ≤ 15 ∧ (15 : Int) ≤ highestOf .one ∧ (4 : Byte) ≠ 1 ∧ (4 : Byte) ≠ 2 ∧ (4 : Byte) ≠ 3 := by
  refine ⟨by decide +kernel, by decide +kernel, ⟨⟨15, 16⟩, rfl, by decide⟩, by decide⟩

/-- A channel in the mode asked for and in another; channels 19 and 20; modes 2 and 3; bursts and periods about each other. Pump 16 in
AUTO with a run of station 2, which alone holds it, with 3 pending runs and with fewer; and with no run. -/
theorem witness_ModesAndPatternsAreSet :
    (∀ n ∈ [2, 3],
      let t := (pumping n).takeFrame 5
      t.channels[16].mode = .auto ∧ t.stations[2].pump.map pumpChannel = some 16 ∧ t.stations[2].pendingRuns = n ∧
        (∀ i : StationNo, t.stations[i].pump.map pumpChannel = some 16 → 2 ≤ i) ∧ t.stations[2].runRemaining ≠ none) ∧
    (site.takeFrame 5).stations[2].runRemaining = none ∧
    (site.takeFrame 5).channels[19].mode = .off ∧ (site.takeFrame 5).channels[19].mode ≠ .auto ∧ 20 ≤ (20 : Byte).toNat ∧
    (19 : Byte).toNat < 20 ∧ 3 ≤ (3 : Byte).toNat ∧ full.length ≠ 2 ∧ (1 : Byte) ≠ 0 ∧ 2 ≤ (2 : Byte).toNat ∧ (1 : Byte).toNat < 2 ∧
    7 < (8 : Byte).toNat ∧ (0 : Byte) = 0 ∧ full.length ≠ 4 := by decide +kernel

/-- The LINE STOP input in both levels; channel 19 named and in MANUAL, and named and not, below it no channel named. Pump 16 named with
value 0, in AUTO and enabled, with a run of station 2, which alone holds it, with 3 pending runs and with fewer; and with no run. -/
theorem witness_OutputsAreEnabledAndStaged :
    (∀ n ∈ [2, 3],
      let t := (pumping n).takeFrame 9
      ((0 : Byte).toNat + (0 : Byte).toNat * 256 + (1 : Byte).toNat * 65536).testBit (16 : ChannelNo).val = true ∧
        ((0 : Byte).toNat + (0 : Byte).toNat * 256 + (0 : Byte).toNat * 65536).testBit (16 : ChannelNo).val = false ∧
        t.stopActive = false ∧ t.channels[16].mode = .auto ∧ t.channels[16].enable = true ∧
        t.stations[2].pump.map pumpChannel = some 16 ∧ t.stations[2].pendingRuns = n ∧
        (∀ i : StationNo, t.stations[i].pump.map pumpChannel = some 16 → 2 ≤ i) ∧ t.stations[2].runRemaining ≠ none) ∧
    (site.takeFrame 9).stations[2].runRemaining = none ∧
    let named : ChannelNo → Bool := fun ch => ((0 : Byte).toNat + (0 : Byte).toNat * 256 + (8 : Byte).toNat * 65536).testBit ch.val
    (site.takeFrame 9).stopActive = false ∧ ({ site with stopActive := true }.takeFrame 9).stopActive = true ∧ named 19 = true ∧
    (site.takeFrame 9).channels[19].mode ≠ .manual ∧ (∀ i : ChannelNo, i < 19 → named i = false) ∧
    ({ site with channels := site.channels.set 19 ⟨.manual, false, false, false⟩ }.takeFrame 9).channels[19].mode = .manual ∧
    full.length ≠ 6 := by decide +kernel

/-- Masks and levels 7 and 8; in service and not; kinds 12 and 13; a mark that is set and one that is not; subjects 47 and 48, 15 and
16, 1, 2 and 3. -/
theorem witness_MasksLevelsAndMarksAreSet :
    (7 : Byte).toNat ≤ 7 ∧ 7 < (8 : Byte).toNat ∧ (site.takeFrame 4).maskStack = [] ∧ (site.takeFrame 3).maskStack = [] ∧
    ({ site with maskStack := [7] }.takeFrame 4).maskStack ≠ [] ∧ ({ site with maskStack := [7] }.takeFrame 3).maskStack = 7 :: [] ∧
    full.length ≠ 1 ∧ full.length ≠ 2 ∧ full ≠ [] ∧ 12 < (13 : Byte).toNat ∧
    (Kind.unloadFull.subject = .line ∧ Kind.recordChanged.subject = .slot ∧ Kind.exhausted.subject = .station ∧
      Kind.carriageFault.subject = .carriage) ∧
    ((site.mark .carriageFault 2).takeFrame 5).hasMark .carriageFault 2 = true ∧ (site.takeFrame 5).hasMark .carriageFault 1 = false ∧
    (47 : Byte).toNat ≤ 47 ∧ 47 < (48 : Byte).toNat ∧ (15 : Byte).toNat ≤ 15 ∧ 15 < (16 : Byte).toNat ∧ (3 : Byte).toNat ≠ 2 := by
  decide +kernel

/-- With mask 4 an OVERSTAY of slots 0 and 3, at level 3, calls, and a LINE_STOPPED at level 4 does not; with mask 0 nothing calls. -/
theorem witness_AckTakesTheMostUrgent :
    let s := { (((hung film site).mark .overstay 0).mark .overstay 3).mark .lineStopped 0 with mask := 4, levels := site.levels.set 0 4 }
    (((s.takeFrame 3).marked .overstay ≠ [] ∧ (s.takeFrame 3).levelOf .overstay < (s.takeFrame 3).mask) ∧
    (∀ x ∈ allKinds, (s.takeFrame 3).marked x ≠ [] ∧ (s.takeFrame 3).levelOf x < (s.takeFrame 3).mask →
      (s.takeFrame 3).levelOf .overstay < (s.takeFrame 3).levelOf x ∨
        ((s.takeFrame 3).levelOf .overstay = (s.takeFrame 3).levelOf x ∧ Kind.overstay.number ≤ x.number)) ∧
    (s.takeFrame 3).marked .overstay = 0 :: [3] ∧ (s.takeFrame 3).hasMark .overstay 0 = true ∧
    (∀ x ∈ allKinds, ¬((site.takeFrame 3).marked x ≠ [] ∧ (site.takeFrame 3).levelOf x < (site.takeFrame 3).mask)) ∧ full ≠ []) ∧
    (s.takeFrame 3).marksInOrder := by
  refine ⟨by decide +kernel, fun k => ⟨?_, ?_⟩⟩
  · cases k <;> decide +kernel
  · cases k <;> dsimp only [Kind.subject] <;> decide +kernel

/-- Held values about the ends of the clamp, valid and not, and the ends of the table; the table after reset. -/
theorem witness_RatesAreInterpolated : (∀ v ∈ [255, 256, 511, 512, 513], ∀ good ∈ [true, false],
      { site.stations[2] with heldValue := some v, valid := good }.heldValue = some v ∧
      { site.stations[2] with heldValue := some v, valid := good }.valid = good) ∧
    (255 < 256 ∧ ¬256 < 256 ∧ ¬512 < 512 ∧ 512 < 513) ∧ (512 - 256) / 16 = 16 ∧ (511 - 256) / 16 = (15 : Fin 16).val ∧
    (256 - 256) / 16 = (0 : Fin 16).val ∧ (∀ i : Fin 17, 64 ≤ resetRates[i] ∧ resetRates[i] ≤ 1023) ∧
    site.stations[2].heldValue = none := by decide +kernel

/-- The table after reset, activities at the ends of their range, and doses, fractions and increments at theirs; the station's rate is 256
while it has no reading. -/
theorem witness_DevelopmentIsExact : (∀ i : Fin 17, 64 ≤ resetRates[i] ∧ resetRates[i] ≤ 1023) ∧ 512 ≤ (512 : Nat) ∧ (1024 : Nat) ≤ 1024 ∧
    { film with fraction := 262143 }.fraction < 262144 ∧ (2095104 : Nat) ≤ 2095104 ∧
    { film with dose := 16777215 }.dose ≤ 16777215 ∧ { film with dose := 16777213 }.dose ≤ 16777213 ∧
    (stationRate resetRates site.stations[2]).1 = 256 ∧ site.stations[2].activity = 1024 ∧
    (Nat.repeat (fun d : Nat × Nat => incremented d.1 d.2 65536) 5 (16777214, 0)).1 = 16777215 := by decide +kernel

end Sys2Proof.Tests
end

section
/-! The part of the state that the agreement of the Hanger Table, the tag index and the use counts is about (R25, R35), and what the
operations of the line, a take and an admission do to it. -/

namespace Sys2Proof.Machine.RecipeBanks

/-! ### The ledger -/

/-- What the tag index and the use counts say of a record. -/
def entryOf (h : Hanger) : Nat × BankNo := (h.tag, h.bank)

/-- The tag index, the use counts, and the tag and bank of each live record. -/
@[ext] structure Ledger where
  index : List (Nat × Slot)
  counts : Vector Nat 32
  entries : Vector (Option (Nat × BankNo)) 48

/-- The ledger of a state: all that `State.tableAgrees` reads. -/
def ledger (s : State) : Ledger := ⟨s.tagIndex, s.banks.map Bank.useCount, s.hangers.map (Option.map entryOf)⟩

/-- A slot holds a record of a bank. -/
def names (b : BankNo) (o : Option (Nat × BankNo)) : Bool := o.any fun e => e.2 == b

/-- The agreement of the table, said of the ledger. -/
def Ledger.agrees (l : Ledger) : Prop :=
  l.index.Pairwise (fun a b => a.1 < b.1) ∧
    (∀ tag (slot : Slot), (tag, slot) ∈ l.index ↔ ∃ b, l.entries[slot] = some (tag, b)) ∧
    ∀ b : BankNo, l.counts[b] = l.entries.countP (names b)

@[simp] theorem ledger_index (s : State) : (ledger s).index = s.tagIndex := rfl
theorem ledger_counts (s : State) (b : BankNo) : (ledger s).counts[b] = s.banks[b].useCount := by simp [ledger]
theorem ledger_entries (s : State) (slot : Slot) : (ledger s).entries[slot] = (s.hangers[slot]).map entryOf := by
  simp [ledger]

theorem tableAgrees_iff (s : State) : s.tableAgrees ↔ (ledger s).agrees := by
  have entry : ∀ tag (slot : Slot), (∃ h, s.hangers[slot] = some h ∧ h.tag = tag) ↔
      ∃ b, (ledger s).entries[slot] = some (tag, b) := by
    intro tag slot
    rw [ledger_entries]
    cases s.hangers[slot] <;> simp [entryOf]
  have count : ∀ b : BankNo, (s.hangers.toList.countP fun o => o.any fun h => h.bank == b) =
      (ledger s).entries.countP (names b) := by
    intro b
    rw [ledger, Vector.countP_map, Vector.countP_toList]
    congr 1
    funext o
    cases o <;> rfl
  simp only [State.tableAgrees, Ledger.agrees, ledger_index, ledger_counts, entry, count]

/-- States with one index, one set of banks and one table have one ledger. -/
theorem ledger_congr {s t : State} (index : t.tagIndex = s.tagIndex) (banks : t.banks = s.banks) (table : t.hangers = s.hangers) :
    ledger t = ledger s := by
  simp only [ledger, index, banks, table]

/-- States with one ledger agree alike. -/
theorem tableAgrees_of_ledger {s t : State} (e : ledger t = ledger s) (h : s.tableAgrees) : t.tableAgrees := by
  rw [tableAgrees_iff, e]
  exact (tableAgrees_iff s).1 h

/-! ### The elementary writes -/

@[simp] theorem ledger_setStation (s : State) (st : StationNo) (x : Station) : ledger (s.setStation st x) = ledger s := rfl
@[simp] theorem ledger_setChannel (s : State) (ch : ChannelNo) (x : Channel) : ledger (s.setChannel ch x) = ledger s := rfl
@[simp] theorem ledger_mark (s : State) (k : Kind) (n : Nat) : ledger (s.mark k n) = ledger s := rfl
@[simp] theorem ledger_unmark (s : State) (k : Kind) (n : Nat) : ledger (s.unmark k n) = ledger s := rfl
@[simp] theorem ledger_setBay (s : State) (d : BayRef) (x : Bay) : ledger (s.setBay d x) = ledger s := rfl
@[simp] theorem ledger_setCarriage (s : State) (c : CarriageId) (x : Carriage) : ledger (s.setCarriage c x) = ledger s := by
  cases c <;> rfl

/-- A bank whose steps alone are written keeps its use count. -/
theorem ledger_setBank (s : State) (b : BankNo) (x : Bank) (h : x.useCount = s.banks[b].useCount) :
    ledger (s.setBank b x) = ledger s := by
  have counts : (s.setBank b x).banks.map Bank.useCount = s.banks.map Bank.useCount := by
    ext i hi
    rw [Vector.getElem_map, Vector.getElem_map, State.setBank_banks, Vector.getElem_set]
    split
    · next e => subst e; exact h
    · rfl
  exact Ledger.ext rfl counts rfl

/-- A record written over one of the same tag and bank keeps the ledger. -/
theorem ledger_putHanger (s : State) (slot : Slot) (h : Hanger) (e : (ledger s).entries[slot] = some (entryOf h)) :
    ledger (s.putHanger slot h) = ledger s := by
  have entries : (s.putHanger slot h).hangers.map (Option.map entryOf) = s.hangers.map (Option.map entryOf) := by
    rw [ledger_entries] at e
    ext1 i hi
    rw [Vector.getElem_map, Vector.getElem_map, State.putHanger_hangers, Vector.getElem_set]
    split
    · next same => subst same; exact e.symm
    · rfl
  have kept := s.putHanger_settings slot h
  exact Ledger.ext (congrArg Settings.tagIndex kept) (congrArg (fun x => x.banks.map Bank.useCount) kept) entries

/-! ### The movements -/

/-- A change of a record that the ledger does not see. -/
def sameEntry (h h' : Hanger) : Prop := entryOf h' = entryOf h

/-- Any change of a station: the ledger sees none. -/
def anyStation (_ _ : Station) : Prop := True

/-- A movement that keeps each record's tag and bank keeps the ledger. -/
theorem ledger_of_moves {s t : State} (m : LineMove sameEntry anyStation s t) : ledger t = ledger s := by
  have entries : t.hangers.map (Option.map entryOf) = s.hangers.map (Option.map entryOf) := by
    ext1 i hi
    rw [Vector.getElem_map, Vector.getElem_map]
    have record := m.record_of (R := sameEntry) (fun _ => Eq.refl _) (fun _ _ _ a b => Eq.trans b a) ⟨i, hi⟩
    rcases record with ⟨vacant, vacant'⟩ | ⟨h, h', live, live', e⟩
    · exact congrArg (Option.map entryOf) (vacant'.trans vacant.symm)
    · calc
        (t.hangers[i]).map entryOf = (Option.some h').map entryOf := congrArg _ live'
        _ = (Option.some h).map entryOf := congrArg Option.some e
        _ = (s.hangers[i]).map entryOf := congrArg _ live.symm
  exact Ledger.ext (congrArg Settings.tagIndex m.settings) (congrArg (fun x => x.banks.map Bank.useCount) m.settings) entries

theorem sameEntry_of_stay (h h' : Hanger) : Hanger.sameStay h h' → sameEntry h h' := by
  rintro ⟨_, _, _, _, _, _, _, rfl⟩
  rfl

theorem anyStation_of {P : Station → Station → Prop} (x x' : Station) : P x x' → anyStation x x' := fun _ => trivial

theorem sameEntry_nextLeg (s : State) (h : Hanger) (d : BayRef) : sameEntry h (s.nextLeg h d) := by
  unfold State.nextLeg
  dsimp only
  split
  · rfl
  · split <;> rfl

@[simp] theorem ledger_arbitrate (s : State) : ledger s.arbitrate = ledger s :=
  ledger_of_moves (s.arbitrate_moves sameEntry_of_stay)

@[simp] theorem ledger_signal (s : State) (slot : Slot) : ledger (s.signal slot) = ledger s :=
  ledger_of_moves (s.signal_moves sameEntry_of_stay slot)

@[simp] theorem ledger_lodge (s : State) (slot : Slot) (cls : RequestClass) (b : Beat) : ledger (s.lodge slot cls b) = ledger s :=
  ledger_of_moves (s.lodge_moves sameEntry_of_stay anyStation_of slot cls b)

@[simp] theorem ledger_offerBay (s : State) (d : BayRef) : ledger (s.offerBay d) = ledger s :=
  ledger_of_moves (s.offerBay_moves sameEntry_of_stay anyStation_of d)

@[simp] theorem ledger_releaseBays (s : State) (ds : List BayRef) : ledger (s.releaseBays ds) = ledger s :=
  ledger_of_moves (s.releaseBays_moves sameEntry_of_stay anyStation_of ds)

@[simp] theorem ledger_dropRequest (s : State) (slot : Slot) : ledger (s.dropRequest slot) = ledger s :=
  ledger_of_moves (s.dropRequest_moves slot)

@[simp] theorem ledger_faultCarriage (s : State) (c : CarriageId) (code : Nat) (f : FaultReason) :
    ledger (s.faultCarriage c code f) = ledger s :=
  ledger_of_moves (s.faultCarriage_moves sameEntry_of_stay c code f)

@[simp] theorem ledger_beginLeg (s : State) (slot : Slot) : ledger (s.beginLeg slot) = ledger s :=
  ledger_of_moves (s.beginLeg_moves (fun _ _ _ => trivial) anyStation_of sameEntry_nextLeg slot)

@[simp] theorem ledger_liftOrder (s : State) (c : CarriageId) : ledger (s.liftOrder c) = ledger s :=
  ledger_of_moves (s.liftOrder_moves sameEntry_of_stay c)

@[simp] theorem ledger_liftOrAwait (s : State) (c : CarriageId) : ledger (s.liftOrAwait c) = ledger s :=
  ledger_of_moves (s.liftOrAwait_moves sameEntry_of_stay c)

@[simp] theorem ledger_lowerOrder (s : State) (c : CarriageId) : ledger (s.lowerOrder c) = ledger s :=
  ledger_of_moves (s.lowerOrder_moves c)

@[simp] theorem ledger_goOn (s : State) (c : CarriageId) : ledger (s.goOn c) = ledger s :=
  ledger_of_moves (s.goOn_moves c)

@[simp] theorem ledger_sendOrder (s : State) (c : CarriageId) (o : Order) : ledger (s.sendOrder c o) = ledger s :=
  ledger_of_moves (s.sendOrder_moves c o)

@[simp] theorem ledger_follow (s : State) (e : FollowUp) : ledger (s.follow e) = ledger s :=
  ledger_of_moves (s.follow_moves (fun _ => trivial) sameEntry_of_stay e)

@[simp] theorem ledger_silenceAuto (s : State) (ch : ChannelNo) : ledger (s.silenceAuto ch) = ledger s :=
  ledger_of_moves (.silence s ch)

@[simp] theorem ledger_silenceHoist (s : State) (j : Job) : ledger (s.silenceHoist j) = ledger s :=
  ledger_of_moves (s.silenceHoist_moves j)

@[simp] theorem ledger_settle (s : State) : ledger s.settle = ledger s :=
  (ledger_of_moves (s.settle_moves (fun _ => trivial) sameEntry_of_stay)).trans rfl

@[simp] theorem ledger_beatEffect (s : State) : ledger s.beatEffect = ledger s := by
  obtain ⟨d, running, due, moves, effect⟩ := s.beat_moves (R := sameEntry) (S := anyStation) sameEntry_of_stay anyStation_of
    (fun _ _ _ => rfl) (fun _ => trivial) (fun _ _ => trivial) (fun _ _ => trivial) (fun _ => trivial)
  calc
    ledger s.beatEffect = ledger d := by rw [effect]; simp only [ledger, State.transfer]
    _ = ledger s.begin.settle.counted := ledger_of_moves moves
    _ = ledger s.begin.settle := rfl
    _ = ledger s := ledger_settle s.begin

@[simp] theorem ledger_takeFrame (s : State) (n : Nat) : ledger (s.takeFrame n) = ledger s := ledger_settle s.begin

/-- A fold of steps that keep the ledger keeps it. -/
theorem ledger_foldl {α : Type} (f : State → α → State) (hf : ∀ s a, ledger (f s a) = ledger s) (l : List α) (s : State) :
    ledger (l.foldl f s) = ledger s := by
  induction l generalizing s with
  | nil => rfl
  | cons a l ih => exact (ih _).trans (hf s a)

end Sys2Proof.Machine.RecipeBanks
end

section
/-! An admission and a retirement on the ledger (R41, R43), and the commands of the host: each keeps the ledger, or enters or strikes
one record. -/

namespace Sys2Proof.Machine.RecipeBanks

/-! ### A record entered and a record struck -/

theorem mem_enterTag (tag : Nat) (slot : Slot) (l : List (Nat × Slot)) (e : Nat × Slot) :
    e ∈ enterTag tag slot l ↔ e = (tag, slot) ∨ e ∈ l := by
  induction l with
  | nil => simp [enterTag]
  | cons x l ih =>
    unfold enterTag
    split
    · exact List.mem_cons
    · simp only [List.mem_cons, ih, or_left_comm]

theorem enterTag_sorted (tag : Nat) (slot : Slot) (l : List (Nat × Slot)) (sorted : l.Pairwise fun a b => a.1 < b.1)
    (fresh : ∀ e ∈ l, e.1 ≠ tag) : (enterTag tag slot l).Pairwise fun a b => a.1 < b.1 := by
  induction l with
  | nil => exact List.pairwise_singleton _ _
  | cons x l ih =>
    obtain ⟨least, tail⟩ := List.pairwise_cons.1 sorted
    have apart : x.1 ≠ tag := fresh x List.mem_cons_self
    unfold enterTag
    split
    · next before =>
      refine List.pairwise_cons.2 ⟨fun e he => ?_, sorted⟩
      rcases List.mem_cons.1 he with rfl | he
      · exact before
      · exact before.trans (least e he)
    · refine List.pairwise_cons.2 ⟨fun e he => ?_, ih tail fun e he => fresh e (List.mem_cons_of_mem x he)⟩
      rcases (mem_enterTag tag slot l e).1 he with rfl | he
      · show x.1 < tag
        omega
      · exact least e he

/-- The ledger with a record of this tag and bank entered in a slot (R41). -/
def Ledger.entered (l : Ledger) (slot : Slot) (tag : Nat) (b : BankNo) : Ledger where
  index := enterTag tag slot l.index
  counts := l.counts.set b.val (l.counts[b] + 1)
  entries := l.entries.set slot.val (some (tag, b))

/-- The ledger with the record of a slot, which is of this bank, struck out (R43). -/
def Ledger.struck (l : Ledger) (slot : Slot) (b : BankNo) : Ledger where
  index := l.index.filter fun e => e.2 != slot
  counts := l.counts.set b.val (l.counts[b] - 1)
  entries := l.entries.set slot.val none

theorem vector_get_set {α : Type} {n : Nat} (v : Vector α n) (i j : Fin n) (x : α) :
    (v.set i.val x)[j] = if j = i then x else v[j] := by
  simp only [Fin.getElem_fin, Vector.getElem_set, Fin.ext_iff, eq_comm]

/-- A tag that no record carries, entered in a vacant slot, leaves the table in agreement. -/
theorem Ledger.agrees_entered {l : Ledger} (h : l.agrees) {slot : Slot} {tag : Nat} (b : BankNo) (vacant : l.entries[slot] = none)
    (fresh : ∀ e ∈ l.index, e.1 ≠ tag) : (l.entered slot tag b).agrees := by
  obtain ⟨sorted, held, counted⟩ := h
  refine ⟨enterTag_sorted tag slot l.index sorted fresh, fun tag' i => ?_, fun c => ?_⟩
  · show (tag', i) ∈ enterTag tag slot l.index ↔ ∃ c, (l.entries.set slot.val (some (tag, b)))[i] = some (tag', c)
    rw [mem_enterTag, held, vector_get_set]
    by_cases same : i = slot
    · subst same
      simp [vacant, eq_comm]
    · simp [same]
  · show (l.counts.set b.val (l.counts[b] + 1))[c] = (l.entries.set slot.val (some (tag, b))).countP (names c)
    have before : (if names c l.entries[slot.val] = true then 1 else 0) = 0 := by
      rw [show l.entries[slot.val] = none from vacant]; rfl
    rw [Vector.countP_set, before, vector_get_set, ← counted c]
    by_cases same : c = b
    · subst same
      simp [names]
    · have apart : (b == c) = false := beq_eq_false_iff_ne.2 (Ne.symm same)
      simp [names, same, apart]

/-- A record struck out leaves the table in agreement. -/
theorem Ledger.agrees_struck {l : Ledger} (h : l.agrees) {slot : Slot} {tag : Nat} {b : BankNo}
    (live : l.entries[slot] = some (tag, b)) : (l.struck slot b).agrees := by
  obtain ⟨sorted, held, counted⟩ := h
  refine ⟨sorted.filter _, fun tag' i => ?_, fun c => ?_⟩
  · show (tag', i) ∈ l.index.filter (fun e => e.2 != slot) ↔ ∃ c, (l.entries.set slot.val none)[i] = some (tag', c)
    rw [List.mem_filter, held, vector_get_set]
    by_cases same : i = slot <;> simp [same]
  · show (l.counts.set b.val (l.counts[b] - 1))[c] = (l.entries.set slot.val none).countP (names c)
    have before : (if names c l.entries[slot.val] = true then 1 else 0) = if c = b then 1 else 0 := by
      rw [show l.entries[slot.val] = some (tag, b) from live]
      simp only [names, Option.any_some, beq_iff_eq, eq_comm (a := b)]
    rw [Vector.countP_set, before, vector_get_set, ← counted c]
    by_cases same : c = b <;> simp [same, names]

/-! ### What a rule answers -/

/-- A rule's answer leaves the ledger as it found it. -/
inductive Rests (s : State) : Reply → Prop
  | accepted {t : State} {n : Nat} {l : List Byte} : ledger t = ledger s → Rests s (.accepted t n l)
  | nothing {t : State} : ledger t = ledger s → Rests s (.nothing t)
  | refused {r : Reason} {n : Nat} : Rests s (.refused r n)

/-- A rule's answer leaves the table in agreement where it found it so. -/
inductive Sound (s : State) : Reply → Prop
  | accepted {t : State} {n : Nat} {l : List Byte} : (s.tableAgrees → t.tableAgrees) → Sound s (.accepted t n l)
  | nothing {t : State} : (s.tableAgrees → t.tableAgrees) → Sound s (.nothing t)
  | refused {r : Reason} {n : Nat} : Sound s (.refused r n)

@[simp] theorem rests_accepted (s t : State) (n : Nat) (l : List Byte) : Rests s (.accepted t n l) ↔ ledger t = ledger s :=
  ⟨fun | .accepted h => h, .accepted⟩
@[simp] theorem rests_nothing (s t : State) : Rests s (.nothing t) ↔ ledger t = ledger s := ⟨fun | .nothing h => h, .nothing⟩
@[simp] theorem rests_refused (s : State) (r : Reason) (n : Nat) : Rests s (.refused r n) := .refused

theorem Rests.sound {s : State} {r : Reply} (h : Rests s r) : Sound s r := by
  cases h with
  | accepted h => exact .accepted (tableAgrees_of_ledger h)
  | nothing h => exact .nothing (tableAgrees_of_ledger h)
  | refused => exact .refused

theorem rests_noPayload {p : List Byte} {body : State → Reply} {s : State} (h : Rests s (body s)) : Rests s (noPayload p body s) := by
  unfold noPayload
  split
  · exact h
  · exact .refused

theorem sound_withRecord {p : List Byte} {s : State} {body : Slot → Hanger → List Byte → Reply}
    (h : ∀ slot g rest, s.hangers[slot] = some g → Sound s (body slot g rest)) : Sound s (withRecord p s body) := by
  unfold withRecord
  split
  · exact .refused
  · split
    · exact .refused
    · split
      · exact .refused
      · next slot e g live => exact h _ g _ live

theorem rests_placement {a b : Byte} {s : State} {body : CarriageId → Int → Reply} (h : ∀ c q, Rests s (body c q)) :
    Rests s (placement a b body) := by
  unfold placement
  split
  · exact .refused
  · split
    · exact .refused
    · exact h _ _

/-- A host command whose rule is sound leaves the table in agreement, whatever becomes of its frame. -/
theorem request_keeps {s : State} (a : s.tableAgrees) (code : Byte) (p : List Byte) {body : State → Reply}
    (sound : ∀ t, Sound t (body t)) : (s.request code p body).tableAgrees := by
  have taken : (s.takeFrame (3 + p.length)).tableAgrees := tableAgrees_of_ledger (ledger_takeFrame s _) a
  unfold State.request
  rcases s.endFrame_cases (3 + p.length) _ with ⟨_, e⟩ | ⟨_, e⟩ | ⟨_, _, _, e⟩ <;> rw [e]
  · split
    · exact tableAgrees_of_ledger rfl taken
    · have answer := sound (s.takeFrame (3 + p.length))
      generalize body (s.takeFrame (3 + p.length)) = r at answer
      cases answer with
      | accepted keeps => exact tableAgrees_of_ledger rfl (keeps taken)
      | nothing keeps => exact tableAgrees_of_ledger rfl (keeps taken)
      | refused => exact tableAgrees_of_ledger rfl taken
  · exact tableAgrees_of_ledger rfl a
  · exact tableAgrees_of_ledger rfl a

end Sys2Proof.Machine.RecipeBanks
end

section
/-! Each rule of a host command on the ledger: it rests, but for ADMIT, which enters a record, and RETIRE, which strikes one. The split of
each proof is that of the rule into its tests; what is left is the ledger of the state it accepts with. -/

namespace Sys2Proof.Machine.RecipeBanks

/-! ### Updates outside the ledger -/

@[simp] theorem ledger_withLevel (s : State) (k : Kind) (n : Nat) : ledger (s.withLevel k n) = ledger s := rfl
@[simp] theorem ledger_enterService (s : State) (k : Kind) : ledger (s.enterService k) = ledger s := rfl
@[simp] theorem ledger_lineState (s : State) (x : LineState) : ledger { s with lineState := x } = ledger s := rfl
@[simp] theorem ledger_params (s : State) (x : LineParams) : ledger { s with params := x } = ledger s := rfl
@[simp] theorem ledger_rates (s : State) (x : Vector Nat 17) : ledger { s with rates := x } = ledger s := rfl
@[simp] theorem ledger_patterns (s : State) (x : Vector Pattern 7) : ledger { s with patterns := x } = ledger s := rfl
@[simp] theorem ledger_masks (s : State) (x : Nat) (l : List Nat) : ledger { s with mask := x, maskStack := l } = ledger s := rfl
@[simp] theorem ledger_mask (s : State) (x : Nat) : ledger { s with mask := x } = ledger s := rfl
@[simp] theorem ledger_bankPointer (s : State) (b : BankNo) : ledger { s with bankPointer := b } = ledger s := rfl

@[simp] theorem ledger_setSteps (s : State) (b : BankNo) (l : List Step) :
    ledger (s.setBank b { s.banks[b] with steps := l }) = ledger s :=
  ledger_setBank s b _ rfl

@[simp] theorem ledger_takeSteps (s : State) (b : BankNo) (n : Nat) (l : List Step) : ledger (s.takeSteps b n l) = ledger s := by
  unfold State.takeSteps
  split
  · exact ledger_setSteps s b l
  · rfl

@[simp] theorem ledger_cutRunShort (s : State) (st : StationNo) : ledger (s.cutRunShort st) = ledger s := by
  unfold State.cutRunShort
  dsimp only
  split
  · rfl
  · split <;> split <;> simp

@[simp] theorem ledger_cutRunOn (s : State) (ch : ChannelNo) : ledger (s.cutRunOn ch) = ledger s := by
  unfold State.cutRunOn
  split
  · rfl
  · split <;> simp

@[simp] theorem ledger_enableChannel (s : State) (v : Bool) (ch : ChannelNo) : ledger (s.enableChannel v ch) = ledger s := by
  unfold State.enableChannel
  dsimp only
  split
  · rfl
  · split <;> simp

@[simp] theorem ledger_changeMode (s : State) (ch : ChannelNo) (m : ChannelMode) : ledger (s.changeMode ch m) = ledger s := by
  unfold State.changeMode
  dsimp only
  split <;> simp

@[simp] theorem ledger_writeBath (s : State) (st : StationNo) (e q : Nat) (p : Option PumpNo) (l r : Nat) :
    ledger (s.writeBath st e q p l r) = ledger s := by
  unfold State.writeBath
  dsimp only
  split <;> simp

@[simp] theorem ledger_giveStation (s : State) (st : StationNo) (c : StationClass) (n : Nat) (p : PatternNo) :
    ledger (s.giveStation st c n p) = ledger s := by
  unfold State.giveStation
  dsimp only
  split <;> split <;> simp

@[simp] theorem ledger_putIn (s : State) (d : BayRef) : ledger (s.putIn d) = ledger s := by
  unfold State.putIn
  split <;> simp

@[simp] theorem ledger_ackRead (s : State) (m : Byte) (k : Kind) (n : Nat) : ledger (s.ackRead m k n) = ledger s := by
  unfold State.ackRead
  split
  · split <;> simp
  · rfl

@[simp] theorem ledger_readSlots (s : State) (m : Byte) (slots : List Slot) : ledger (s.readSlots m slots) = ledger s := by
  unfold State.readSlots
  split
  · rfl
  · exact ledger_foldl _ (fun t slot => by split <;> simp) slots s

@[simp] theorem ledger_recover (s : State) (c : CarriageId) (q : Int) : ledger (s.recover c q) = ledger s := by
  simp [State.recover]

@[simp] theorem ledger_settleHanger (s : State) (out : RecoveryOutcome) (j : Job) : ledger (s.settleHanger out j) = ledger s := by
  cases out with
  | returned => exact ledger_of_moves (s.returnHanger_moves sameEntry_of_stay anyStation_of j.slot j.source)
  | delivered =>
    exact ledger_of_moves
      (s.deliverHanger_moves (fun _ _ _ => trivial) anyStation_of sameEntry_of_stay sameEntry_nextLeg j.slot j.source)
  | removed => exact ledger_of_moves (s.removeHanger_moves sameEntry_of_stay anyStation_of (fun _ => rfl) j.slot j.source)

@[simp] theorem ledger_reissue (s : State) (c : CarriageId) : ledger (s.reissue c) = ledger s := by
  unfold State.reissue
  dsimp only
  split
  · rfl
  · split <;> simp

@[simp] theorem ledger_settleCarriage (s : State) (c : CarriageId) : ledger (s.settleCarriage c) = ledger s := by
  unfold State.settleCarriage
  split <;> simp

@[simp] theorem ledger_resumed (s : State) : ledger s.resumed = ledger s := by
  simp [State.resumed, ledger_foldl State.settleCarriage ledger_settleCarriage]

/-! ### The line, the stations and the recipes -/

theorem rests_setLineParameters (p : List Byte) (s : State) : Rests s (setLineParametersBody p s) := by
  unfold setLineParametersBody
  repeat' split
  all_goals simp

theorem rests_startLine (s : State) : Rests s (startLineBody s) := by
  unfold startLineBody
  repeat' split
  all_goals simp

theorem rests_stopLine (s : State) : Rests s (stopLineBody s) := by
  unfold stopLineBody
  repeat' split
  all_goals simp

theorem rests_pauseLine (s : State) : Rests s (pauseLineBody s) := by
  unfold pauseLineBody
  split <;> simp

theorem rests_resume (s : State) : Rests s (resumeBody s) := by
  unfold resumeBody
  repeat' split
  all_goals simp

theorem rests_setStation (p : List Byte) (s : State) : Rests s (setStationBody p s) := by
  unfold setStationBody
  repeat' split
  all_goals simp

theorem rests_readStation (p : List Byte) (s : State) : Rests s (readStationBody p s) := by
  unfold readStationBody
  repeat' split
  all_goals simp

theorem rests_setBayService (p : List Byte) (s : State) : Rests s (setBayServiceBody p s) := by
  unfold setBayServiceBody
  dsimp only
  repeat' split
  all_goals simp

theorem rests_setActivity (p : List Byte) (s : State) : Rests s (setActivityBody p s) := by
  unfold setActivityBody
  dsimp only
  repeat' split
  all_goals simp

theorem rests_setBathParameters (p : List Byte) (s : State) : Rests s (setBathParametersBody p s) := by
  unfold setBathParametersBody
  repeat' split
  all_goals simp

theorem rests_selectBank (p : List Byte) (s : State) : Rests s (selectBankBody p s) := by
  unfold selectBankBody
  repeat' split
  all_goals simp

theorem rests_loadSteps (m : Byte) (p : List Byte) (s : State) : Rests s (loadStepsBody m p s) := by
  unfold loadStepsBody
  dsimp only
  repeat' split
  all_goals simp

theorem rests_clearBank (m : Byte) (s : State) : Rests s (clearBankBody m s) := by
  unfold clearBankBody
  dsimp only
  split
  · exact .refused
  · exact .accepted (ledger_setSteps s _ [])

theorem rests_setRateTable (p : List Byte) (s : State) : Rests s (setRateTableBody p s) := by
  unfold setRateTableBody
  split <;> simp

/-! ### The Hanger Table -/

/-- The slot ADMIT takes is vacant (R41). -/
theorem hangers_vacantSlot {s : State} {slot : Slot} (h : s.vacantSlot = some slot) : s.hangers[slot] = none := by
  have found := List.find?_some h
  exact Option.isNone_iff_eq_none.1 found

/-- A tag that the index holds for no slot is the tag of no entry (R35). -/
theorem slotOfTag_eq_none {s : State} {tag : Nat} : s.slotOfTag tag = none ↔ ∀ e ∈ s.tagIndex, e.1 ≠ tag := by
  simp [State.slotOfTag]

/-- The state in which the record of an admission stands in its bay, its tag in the index and its bank counted (R41). -/
def enteredAt (s : State) (slot : Slot) (h : Hanger) (d : BayRef) : State :=
  let t := (s.occupyBay slot d).putHanger slot h
  { t.setBank h.bank t.banks[h.bank].used with tagIndex := enterTag h.tag slot t.tagIndex }

theorem enterHanger_eq (s : State) (slot : Slot) (h : Hanger) (d : BayRef) :
    s.enterHanger slot h d = (enteredAt s slot h d).lodge slot .launch s.beat := rfl

theorem enteredAt_settings (s : State) (slot : Slot) (h : Hanger) (d : BayRef) : (enteredAt s slot h d).settings = { s.settings with
    banks := s.banks.set h.bank.val s.banks[h.bank].used
    tagIndex := enterTag h.tag slot s.tagIndex } := by
  have kept : ((s.occupyBay slot d).putHanger slot h).settings = s.settings :=
    ((s.occupyBay slot d).putHanger_settings slot h).trans
      (s.occupyBay_moves (R := sameEntry) (S := anyStation) anyStation_of slot d).settings
  have banks : ((s.occupyBay slot d).putHanger slot h).banks = s.banks := congrArg Settings.banks kept
  have index : ((s.occupyBay slot d).putHanger slot h).tagIndex = s.tagIndex := congrArg Settings.tagIndex kept
  unfold enteredAt
  rw [← kept, ← banks, ← index]
  rfl

theorem enteredAt_hangers (s : State) (slot : Slot) (h : Hanger) (d : BayRef) :
    (enteredAt s slot h d).hangers = s.hangers.set slot.val (some h) := by
  rw [← s.occupyBay_hangers slot d]
  exact (s.occupyBay slot d).putHanger_hangers slot h

/-- ADMIT enters its record in the ledger (R41). -/
theorem ledger_enterHanger (s : State) (slot : Slot) (h : Hanger) (d : BayRef) :
    ledger (s.enterHanger slot h d) = (ledger s).entered slot h.tag h.bank := by
  have kept := enteredAt_settings s slot h d
  have banks : (enteredAt s slot h d).banks = _ := congrArg Settings.banks kept
  rw [enterHanger_eq, ledger_lodge]
  refine Ledger.ext (congrArg Settings.tagIndex kept) ?_ ?_
  · rw [ledger, banks, Vector.map_set, Ledger.entered, ledger_counts]
    rfl
  · rw [ledger, enteredAt_hangers, Vector.map_set]
    rfl

theorem sound_admit (m : Byte) (p : List Byte) (s : State) : Sound s (admitBody m p s) := by
  unfold admitBody
  dsimp only
  repeat' split
  case h_2 slot vacant _ fresh _ _ _ _ d _ =>
    refine .accepted fun a => ?_
    rw [tableAgrees_iff, ledger_enterHanger]
    refine Ledger.agrees_entered ((tableAgrees_iff s).1 a) _ ?_ (slotOfTag_eq_none.1 fresh)
    rw [ledger_entries, hangers_vacantSlot vacant]
    rfl
  all_goals exact .refused

/-- RETIRE strikes its record out of the ledger (R43). -/
theorem ledger_retire (s : State) (slot : Slot) (h : Hanger) : ledger (s.retire slot h) = (ledger s).struck slot h.bank := by
  unfold State.retire State.unmarkSlot
  dsimp only
  generalize e : hangerKinds.foldl _ _ = t
  have kept : ledger t = ledger s := by
    rw [← e, ledger_foldl (fun t k => t.unmark k slot.val) fun _ _ => rfl, ledger_releaseBays, ledger_dropRequest]
  rw [← kept]
  refine Ledger.ext rfl ?_ ?_
  · show (t.setBank h.bank _).banks.map Bank.useCount = _
    rw [State.setBank_banks, Vector.map_set, Ledger.struck, ledger_counts]
    rfl
  · show (t.hangers.set slot.val none).map (Option.map entryOf) = _
    rw [Vector.map_set]
    rfl

theorem sound_retire (p : List Byte) (s : State) : Sound s (retireBody p s) := by
  refine sound_withRecord fun slot h rest live => ?_
  split
  · exact .refused
  · split
    · exact .refused
    · refine .accepted fun a => ?_
      rw [tableAgrees_iff, ledger_retire]
      refine Ledger.agrees_struck ((tableAgrees_iff s).1 a) (tag := h.tag) ?_
      rw [ledger_entries, live]
      rfl

/-- The entry of a slot whose record is known. -/
theorem ledger_entry {s : State} {slot : Slot} {h : Hanger} (live : s.hangers[slot] = some h) :
    (ledger s).entries[slot] = some (entryOf h) := by
  rw [ledger_entries, live]
  rfl

/-- A record is written over itself with its tag and bank kept. -/
theorem ledger_rewrite {s : State} {slot : Slot} {h : Hanger} (entry : (ledger s).entries[slot] = some (entryOf h)) (g : Hanger)
    (same : entryOf g = entryOf h) : ledger (s.putHanger slot g) = ledger s :=
  ledger_putHanger s slot g (same ▸ entry)

theorem ledger_hold {s : State} {slot : Slot} {h : Hanger} (live : s.hangers[slot] = some h) : ledger (s.hold slot h) = ledger s := by
  have entry : (ledger (s.dropRequest slot)).entries[slot] = some (entryOf h) := by rw [ledger_dropRequest, ledger_entry live]
  refine (ledger_releaseBays _ _).trans (Eq.trans ?_ (ledger_dropRequest s slot))
  exact ledger_rewrite entry _ rfl

theorem sound_hold (p : List Byte) (s : State) : Sound s (holdBody p s) := by
  refine sound_withRecord fun slot h rest live => Rests.sound ?_
  repeat' split
  all_goals simp [ledger_hold live]

theorem ledger_release {s : State} {slot : Slot} {h : Hanger} (live : s.hangers[slot] = some h) :
    ledger (s.release slot h) = ledger s := by
  unfold State.release
  dsimp only
  split
  · exact (ledger_lodge _ _ _ _).trans (ledger_rewrite (ledger_entry live) _ rfl)
  · split
    · exact (ledger_lodge _ _ _ _).trans (ledger_rewrite (ledger_entry live) _ rfl)
    · exact ledger_rewrite (ledger_entry live) _ rfl

theorem sound_release (p : List Byte) (s : State) : Sound s (releaseBody p s) := by
  refine sound_withRecord fun slot h rest live => Rests.sound ?_
  repeat' split
  all_goals simp [ledger_release live]

theorem ledger_amend {s : State} {slot : Slot} {h : Hanger} (live : s.hangers[slot] = some h) (change : Byte) (push : Int)
    (area : Nat) : ledger (s.amend slot h change push area) = ledger s := by
  unfold State.amend State.retarget
  dsimp only
  split
  · split
    · split
      · exact (ledger_lodge _ _ _ _).trans (ledger_rewrite (ledger_entry live) _ rfl)
      · exact (ledger_signal _ _).trans (ledger_rewrite (ledger_entry live) _ rfl)
    · exact ledger_rewrite (ledger_entry live) _ rfl
  · exact ledger_rewrite (ledger_entry live) _ rfl

theorem sound_amend (p : List Byte) (s : State) : Sound s (amendBody p s) := by
  refine sound_withRecord fun slot h rest live => Rests.sound ?_
  dsimp only
  repeat' split
  all_goals simp [ledger_amend live]

theorem ledger_setDose {s : State} {slot : Slot} {h : Hanger} (live : s.hangers[slot] = some h) (g : Hanger)
    (same : entryOf g = entryOf h) : ledger (s.setDose slot g) = ledger s := by
  unfold State.setDose
  split
  · exact (ledger_lodge _ _ _ _).trans (ledger_rewrite (ledger_entry live) _ same)
  · exact (ledger_signal _ _).trans (ledger_rewrite (ledger_entry live) _ same)

theorem sound_setDose (p : List Byte) (s : State) : Sound s (setDoseBody p s) := by
  refine sound_withRecord fun slot h rest live => Rests.sound ?_
  have kept : ∀ n, ledger (s.setDose slot (h.withDose n)) = ledger s := fun n => ledger_setDose live _ rfl
  dsimp only
  repeat' split
  all_goals simp [kept]

theorem rests_find (p : List Byte) (s : State) : Rests s (findBody p s) := by
  unfold findBody
  repeat' split
  all_goals simp

theorem rests_findMatching (p : List Byte) (s : State) : Rests s (findMatchingBody p s) := by
  unfold findMatchingBody
  dsimp only
  repeat' split
  all_goals simp

theorem rests_readRecords (m : Byte) (p : List Byte) (s : State) : Rests s (readRecordsBody m p s) := by
  unfold readRecordsBody
  dsimp only
  repeat' split
  all_goals simp

/-! ### The carriages -/

theorem rests_placeCarriage (p : List Byte) (s : State) : Rests s (placeCarriageBody p s) := by
  unfold placeCarriageBody
  split
  · refine rests_placement fun c q => ?_
    repeat' split
    all_goals simp
  · exact .refused

theorem rests_recoverCarriage (p : List Byte) (s : State) : Rests s (recoverCarriageBody p s) := by
  unfold recoverCarriageBody
  split
  · refine rests_placement fun c q => ?_
    repeat' split
    all_goals simp
  · exact .refused

theorem rests_disableCarriage (p : List Byte) (s : State) : Rests s (disableCarriageBody p s) := by
  unfold disableCarriageBody
  split
  · refine rests_placement fun c q => ?_
    repeat' split
    all_goals simp
  · exact .refused

theorem rests_enableCarriage (p : List Byte) (s : State) : Rests s (enableCarriageBody p s) := by
  unfold enableCarriageBody
  split
  · refine rests_placement fun c q => ?_
    repeat' split
    all_goals simp
  · exact .refused

theorem rests_readCarriage (p : List Byte) (s : State) : Rests s (readCarriageBody p s) := by
  unfold readCarriageBody
  repeat' split
  all_goals simp

/-! ### The outputs and the Attention Unit -/

theorem rests_setChannelMode (p : List Byte) (s : State) : Rests s (setChannelModeBody p s) := by
  unfold setChannelModeBody
  repeat' split
  all_goals simp

theorem rests_enableOutputs (p : List Byte) (s : State) : Rests s (enableOutputsBody p s) := by
  unfold enableOutputsBody
  split
  · split
    · exact .refused
    · exact .accepted (ledger_foldl _ (fun t ch => ledger_enableChannel t _ ch) _ s)
  · exact .refused

theorem rests_setManualOutputs (p : List Byte) (s : State) : Rests s (setManualOutputsBody p s) := by
  unfold setManualOutputsBody
  split
  · split
    · exact .refused
    · exact .accepted (ledger_foldl _ (fun t ch => ledger_setChannel t ch _) _ s)
  · exact .refused

theorem rests_setPattern (p : List Byte) (s : State) : Rests s (setPatternBody p s) := by
  unfold setPatternBody
  repeat' split
  all_goals simp

theorem rests_ack (m : Byte) (s : State) : Rests s (ackBody m s) := by
  unfold ackBody
  split <;> simp

theorem rests_done (s : State) : Rests s (doneBody s) := by
  unfold doneBody
  split <;> simp

theorem rests_setMask (p : List Byte) (s : State) : Rests s (setMaskBody p s) := by
  unfold setMaskBody
  repeat' split
  all_goals simp

theorem rests_setLevel (p : List Byte) (s : State) : Rests s (setLevelBody p s) := by
  unfold setLevelBody
  repeat' split
  all_goals simp

theorem rests_clearMark (p : List Byte) (s : State) : Rests s (clearMarkBody p s) := by
  unfold clearMarkBody
  repeat' split
  all_goals simp

end Sys2Proof.Machine.RecipeBanks
end

section
/-! Every step keeps the Hanger Table, the tag index and the use counts in agreement (R25, R35). -/

namespace Sys2Proof.Machine.RecipeBanks

/-- Whatever an outcome's next state is, its table agrees. -/
def Agreeing (o : Host.Outcome State Fault Refusal) : Prop := ∀ t, o = .next t → t.tableAgrees

theorem agreeing_next {t : State} (h : t.tableAgrees) : Agreeing (.next t) := by
  rintro _ ⟨⟩
  exact h

/-! ### Resets -/

theorem reset_tableAgrees : State.reset.tableAgrees := by
  refine ⟨List.Pairwise.nil, fun tag slot => ?_, fun b => ?_⟩
  · simp [State.reset]
  · simp [State.reset]

theorem resetPart_tableAgrees (s : State) : s.resetPart.tableAgrees := by
  unfold State.resetPart
  dsimp only
  split <;> exact tableAgrees_of_ledger (s := State.reset) rfl reset_tableAgrees

/-! ### Events -/

theorem ledger_haltCarriage (s : State) (c : CarriageId) : ledger (s.haltCarriage c) = ledger s := by
  unfold State.haltCarriage
  dsimp only
  split
  · rfl
  · split
    · exact (ledger_silenceHoist _ _).trans (ledger_setCarriage s c _)
    · exact ledger_setCarriage s c _

theorem ledger_lineStop (s : State) : ledger s.lineStop = ledger s := by
  unfold State.lineStop State.cutRuns
  refine (ledger_lineState _ _).trans ((ledger_mark _ _ _).trans ?_)
  rw [ledger_foldl _ ledger_haltCarriage, ledger_foldl _ ledger_cutRunShort]
  exact ledger_congr rfl rfl rfl

theorem ledger_reading (s : State) (st : StationNo) (n : Nat) : ledger (s.reading st n) = ledger s := by
  unfold State.reading State.takeSensorFault
  split
  · dsimp only
    split <;> simp
  · exact (ledger_unmark _ _ _).trans (ledger_setStation s st _)

theorem ledger_strayReport (s : State) (c : CarriageId) : ledger (s.strayReport c) = ledger s := by
  unfold State.strayReport
  split <;> simp

/-- A report that is heard keeps the ledger where what it advances does. -/
theorem ledger_report (s : State) (c : CarriageId) (answers : Order → Bool) {advance : State → State}
    (h : ∀ t, ledger (advance t) = ledger t) : ledger (s.report c answers advance) = ledger s := by
  have found : ledger (s.received (.link c)).begin.settle = ledger s := ledger_settle _
  unfold State.report
  dsimp only
  split
  · split
    · exact (h _).trans ((ledger_setCarriage _ c _).trans found)
    · exact (ledger_strayReport _ c).trans found
  · exact (ledger_strayReport _ c).trans found

theorem ledger_arrive (s : State) (c : CarriageId) : ledger (s.arrive c) = ledger s := by
  unfold State.arrive State.arriveSource State.arriveDestination
  split
  · rfl
  · split <;> simp

theorem ledger_park (s : State) (c : CarriageId) : ledger (s.park c) = ledger s := by simp [State.park]

theorem ledger_drain (s : State) (c : CarriageId) (j : Job) : ledger (s.drain c j) = ledger s := by
  unfold State.drain
  split <;> simp

theorem ledger_lifted (s : State) (c : CarriageId) : ledger (s.lifted c) = ledger s := by
  unfold State.lifted
  split
  · rfl
  · exact (ledger_drain _ c _).trans (ledger_releaseBays s _)

theorem ledger_lowered (s : State) (c : CarriageId) : ledger (s.lowered c) = ledger s := by
  unfold State.lowered
  split
  · rfl
  · simp

theorem ledger_takeFollowUp (s : State) (e : FollowUp) : ledger (s.takeFollowUp e) = ledger s := by
  unfold State.takeFollowUp
  split
  · exact ledger_follow _ e
  · rfl

theorem ledger_fetch (s : State) (n : Nat) : ledger (s.fetch n) = ledger s := by
  unfold State.fetch
  split <;> exact ledger_congr rfl rfl rfl

theorem completion_agrees {s : State} (a : s.tableAgrees) : Agreeing (execCompletion s) := by
  unfold execCompletion
  refine agreeing_next (tableAgrees_of_ledger ?_ a)
  split <;> exact ledger_congr rfl rfl rfl

theorem fetchFrame_agrees {s : State} (a : s.tableAgrees) (count : Nat) : Agreeing (execFetchFrame count s) := by
  cases count with
  | zero => exact agreeing_next (tableAgrees_of_ledger (ledger_congr rfl rfl rfl) a)
  | succ n => exact agreeing_next (tableAgrees_of_ledger (ledger_fetch s n) a)

theorem faultReport_agrees {s : State} (a : s.tableAgrees) (c : CarriageId) (code : Byte) : Agreeing (execFaultReport c code s) := by
  have found : ledger (s.received (.link c)).begin.settle = ledger s := ledger_settle _
  refine agreeing_next (tableAgrees_of_ledger ?_ a)
  split
  · exact found
  · exact (ledger_faultCarriage _ c _ _).trans found

theorem readingFrame_agrees {s : State} (a : s.tableAgrees) (frame : List Byte) : Agreeing (execReadingFrame frame s) := by
  refine agreeing_next (tableAgrees_of_ledger ?_ a)
  split
  · exact ledger_reading _ _ _
  · rfl

theorem lineStopActive_agrees {s : State} (a : s.tableAgrees) : Agreeing (execLineStopActive s) := by
  refine agreeing_next (tableAgrees_of_ledger ?_ a)
  split
  · rfl
  · exact (ledger_lineStop _).trans (ledger_settle s.begin)

theorem linkReset_agrees {s : State} (a : s.tableAgrees) (m : Byte) (p : List Byte) : Agreeing (execLinkReset m p s) := by
  refine agreeing_next ?_
  split
  · rcases s.endFrame_cases 3 s.linkReset with ⟨_, e⟩ | ⟨_, e⟩ | ⟨_, _, _, e⟩ <;> rw [e]
    · exact tableAgrees_of_ledger (ledger_takeFrame s 3) a
    · exact tableAgrees_of_ledger rfl a
    · exact tableAgrees_of_ledger rfl a
  · exact request_keeps a _ _ fun _ => .refused

theorem fullReset_agrees {s : State} (a : s.tableAgrees) (m : Byte) (p : List Byte) : Agreeing (execFullReset m p s) := by
  refine agreeing_next ?_
  split
  · rcases s.endFrame_cases 3 { s.resetPart with shifted := s.frameOut 3 } with ⟨_, e⟩ | ⟨_, e⟩ | ⟨_, _, _, e⟩ <;> rw [e]
    · exact tableAgrees_of_ledger (ledger_congr rfl rfl rfl) (resetPart_tableAgrees s)
    · exact tableAgrees_of_ledger rfl a
    · exact tableAgrees_of_ledger rfl a
  · exact request_keeps a _ _ fun _ => .refused

/-! ### Every command -/

/-- A read answers without a change of the ledger. -/
theorem rests_read {p : List Byte} {n : State → Nat} {data : State → List Byte} (t : State) :
    Rests t (noPayload p (fun t => .accepted t (n t) (data t)) t) :=
  rests_noPayload (.accepted rfl)

/-- Each command but a request frame given as bytes leaves the table in agreement. -/
theorem exec_agrees {s : State} (a : s.tableAgrees) (i : Instr) (h : ∀ bytes, i ≠ .requestFrame bytes) : Agreeing (exec i s) := by
  have request : ∀ (code : Byte) (p : List Byte) (body : State → Reply), (∀ t, Rests t (body t)) →
      Agreeing (.next (s.request code p body)) :=
    fun code p body rests => agreeing_next (request_keeps a code p fun t => (rests t).sound)
  have kept : ∀ t : State, ledger t = ledger s → Agreeing (.next t) := fun t e => agreeing_next (tableAgrees_of_ledger e a)
  cases i with
  | beat => exact kept _ (ledger_beatEffect s)
  | reset => exact agreeing_next (tableAgrees_of_ledger (ledger_congr rfl rfl rfl) (resetPart_tableAgrees s))
  | lineStopActive => exact lineStopActive_agrees a
  | lineStopInactive => exact kept _ rfl
  | readingFrame frame => exact readingFrame_agrees a frame
  | arrived c arg => exact kept _ (ledger_report s c _ fun t => ledger_arrive t c)
  | parked c arg => exact kept _ (ledger_report s c _ fun t => ledger_park t c)
  | lifted c arg => exact kept _ (ledger_report s c _ fun t => ledger_lifted t c)
  | lowered c arg => exact kept _ (ledger_report s c _ fun t => ledger_lowered t c)
  | faultReport c code => exact faultReport_agrees a c code
  | orderExpiry c => exact kept _ (ledger_takeFollowUp s.begin (.expiry c))
  | drainEnd c => exact kept _ (ledger_takeFollowUp s.begin (.drain c))
  | runComplete st => exact kept _ (ledger_takeFollowUp s.begin (.credit st))
  | completion => exact completion_agrees a
  | fetchFrame count => exact fetchFrame_agrees a count
  | requestFrame bytes => exact absurd rfl (h bytes)
  | identify m p => exact request _ p _ rests_read
  | readLine m p => exact request _ p _ rests_read
  | setLineParameters m p => exact request _ p _ (rests_setLineParameters p)
  | linkReset m p => exact linkReset_agrees a m p
  | fullReset m p => exact fullReset_agrees a m p
  | startLine m p => exact request _ p _ fun t => rests_noPayload (rests_startLine t)
  | stopLine m p => exact request _ p _ fun t => rests_noPayload (rests_stopLine t)
  | pauseLine m p => exact request _ p _ fun t => rests_noPayload (rests_pauseLine t)
  | resume m p => exact request _ p _ fun t => rests_noPayload (rests_resume t)
  | setStation m p => exact request _ p _ (rests_setStation p)
  | readStation m p => exact request _ p _ (rests_readStation p)
  | setBayService m p => exact request _ p _ (rests_setBayService p)
  | setActivity m p => exact request _ p _ (rests_setActivity p)
  | setBathParameters m p => exact request _ p _ (rests_setBathParameters p)
  | selectBank m p => exact request _ p _ (rests_selectBank p)
  | loadSteps m p => exact request _ p _ (rests_loadSteps m p)
  | readSteps m p => exact request _ p _ rests_read
  | clearBank m p => exact request _ p _ fun t => rests_noPayload (rests_clearBank m t)
  | setRateTable m p => exact request _ p _ (rests_setRateTable p)
  | readRateTable m p => exact request _ p _ rests_read
  | admitHanger m p => exact agreeing_next (request_keeps a _ p (sound_admit m p))
  | retire m p => exact agreeing_next (request_keeps a _ p (sound_retire p))
  | hold m p => exact agreeing_next (request_keeps a _ p (sound_hold p))
  | release m p => exact agreeing_next (request_keeps a _ p (sound_release p))
  | amend m p => exact agreeing_next (request_keeps a _ p (sound_amend p))
  | setDose m p => exact agreeing_next (request_keeps a _ p (sound_setDose p))
  | find m p => exact request _ p _ (rests_find p)
  | findMatching m p => exact request _ p _ (rests_findMatching p)
  | readRecords m p => exact request _ p _ (rests_readRecords m p)
  | readQueue m p => exact request _ p _ rests_read
  | placeCarriage m p => exact request _ p _ (rests_placeCarriage p)
  | recoverCarriage m p => exact request _ p _ (rests_recoverCarriage p)
  | disableCarriage m p => exact request _ p _ (rests_disableCarriage p)
  | enableCarriage m p => exact request _ p _ (rests_enableCarriage p)
  | readCarriage m p => exact request _ p _ (rests_readCarriage p)
  | setChannelMode m p => exact request _ p _ (rests_setChannelMode p)
  | enableOutputs m p => exact request _ p _ (rests_enableOutputs p)
  | setManualOutputs m p => exact request _ p _ (rests_setManualOutputs p)
  | setPattern m p => exact request _ p _ (rests_setPattern p)
  | readOutputs m p => exact request _ p _ rests_read
  | ack m p => exact request _ p _ fun t => rests_noPayload (rests_ack m t)
  | doneService m p => exact request _ p _ fun t => rests_noPayload (rests_done t)
  | setMask m p => exact request _ p _ (rests_setMask p)
  | setLevel m p => exact request _ p _ (rests_setLevel p)
  | clearMark m p => exact request _ p _ (rests_clearMark p)
  | readMarks m p => exact request _ p _ rests_read
  | reportFrameDiscarded c => exact kept _ rfl
  | frameBrokenOff line => exact kept _ rfl

/-- A command that a request frame spells is carried out by its own meaning; an event that none spells is no command of the link. -/
theorem runRequest_cases (i : Instr) (s : State) :
    runRequest i s = .next s.begin ∨ ((∀ bytes, i ≠ .requestFrame bytes) ∧ runRequest i s = exec i s) := by
  cases i <;> simp [runRequest, exec]

theorem refuseFrame_keeps {s : State} (a : s.tableAgrees) (code : Byte) (n : Nat) (r : Reason) (d : Nat) :
    (s.refuseFrame code n r d).tableAgrees := by
  unfold State.refuseFrame
  rcases s.endFrame_cases n _ with ⟨_, e⟩ | ⟨_, e⟩ | ⟨_, _, _, e⟩ <;> rw [e]
  · exact tableAgrees_of_ledger (ledger_takeFrame s n) a
  · exact tableAgrees_of_ledger rfl a
  · exact tableAgrees_of_ledger rfl a

/-- A request frame given as bytes leaves the table in agreement. -/
theorem requestFrame_agrees {s : State} (a : s.tableAgrees) (bytes : List Byte) : Agreeing (execRequestFrame bytes s) := by
  unfold execRequestFrame
  split
  · exact agreeing_next (tableAgrees_of_ledger (ledger_congr rfl rfl rfl) a)
  · split
    · exact fetchFrame_agrees a _
    · split
      · next i _ =>
        rcases runRequest_cases i s with e | ⟨command, e⟩ <;> rw [e]
        · exact agreeing_next (tableAgrees_of_ledger rfl a)
        · exact exec_agrees a i command
      · split <;> exact agreeing_next (refuseFrame_keeps a _ _ _ _)

theorem step_agrees {s : State} (a : s.tableAgrees) : Agreeing (step s) := by
  unfold step
  split
  · refine agreeing_next (tableAgrees_of_ledger ?_ a)
    unfold State.clockCycle
    split
    · exact (ledger_congr rfl rfl rfl).trans (ledger_settle s.begin)
    · exact ledger_beatEffect s
  · next c rest _ =>
    have waiting : { s with pending := rest }.tableAgrees := tableAgrees_of_ledger rfl a
    by_cases bytes : ∃ l, c = .requestFrame l
    · obtain ⟨l, rfl⟩ := bytes
      exact requestFrame_agrees waiting l
    · exact exec_agrees waiting c fun l e => bytes ⟨l, e⟩

/-- Settles O35: the table, the index and the use counts are the ledger; every command keeps the ledger, or enters a fresh record in a
vacant slot, or strikes a live one, or resets it. -/
theorem stepsKeepTheTableInAgreement : Obligations.StepsKeepTheTableInAgreement := by
  unfold Obligations.StepsKeepTheTableInAgreement
  intro s t a e
  exact step_agrees a t e

end Sys2Proof.Machine.RecipeBanks
end

section
/-! SET LINE PARAMETERS, SELECT BANK, CLEAR BANK and SET RATE TABLE (R23, R24, R32, R65, R171), with the facts about bytes and about a
taken request frame that the commands of the host share. -/

namespace Sys2Proof.Machine.RecipeBanks

/-! ### Bytes -/

theorem byte_toNat_of_lt {n : Nat} (h : n < 256) : (byte n).toNat = n := by
  simp only [byte, BitVec.toNat_ofNat]
  omega

@[simp] theorem byte_toNat (b : Byte) : byte b.toNat = b := BitVec.eq_of_toNat_eq (byte_toNat_of_lt b.isLt)

/-- A number below 2¹⁶ is read back from its two bytes (R183). -/
theorem num16_be16 {n : Nat} (h : n < 65536) : num16 (byte (n / 256)) (byte n) = n := by
  simp only [num16, byte, BitVec.toNat_ofNat]
  omega

/-- A place of a table of `k` is read back from its byte. -/
theorem finOf_byte {k : Nat} (small : k ≤ 256) (i : Fin k) : finOf k (byte i.val) = some i := by
  have back : (byte i.val).toNat = i.val := byte_toNat_of_lt (by omega)
  unfold finOf
  simp [back]

theorem finOf_eq_none {k : Nat} {b : Byte} : finOf k b = none ↔ k ≤ b.toNat := by
  unfold finOf
  split <;> simp <;> omega

/-! ### A taken request frame -/

/-- A rule that refuses leaves the take's effects and the response (R165). -/
theorem request_refused {code : Byte} {p : List Byte} {body : State → Reply} {s : State} {r : Reason} {d : Nat}
    (hears : s.listening = true) (short : p.length ≤ 64) (e : body (s.takeFrame (3 + p.length)) = .refused r d) :
    Host.Outcome.next (φ := Fault) (ρ := Refusal) (s.request code p body) = .next (s.refusedAs code (3 + p.length) r d) := by
  rw [State.request_listening code p body s hears short, e]
  rfl

/-- A rule that accepts leaves its effects and the response (R165). -/
theorem request_accepted {code : Byte} {p : List Byte} {body : State → Reply} {s t : State} {d : Nat} {data : List Byte}
    (hears : s.listening = true) (short : p.length ≤ 64) (e : body (s.takeFrame (3 + p.length)) = .accepted t d data) :
    Host.Outcome.next (φ := Fault) (ρ := Refusal) (s.request code p body) = .next (s.okay code d data t) := by
  rw [State.request_listening code p body s hears short, e]
  rfl

/-! ### SET LINE PARAMETERS -/

theorem max_eight (n : Nat) : max 8 n = if n < 8 then 8 else n := by
  split <;> omega

theorem setLineParametersBody_six (a b c d e f : Byte) (s : State) (h : f ≠ 0) :
    setLineParametersBody [a, b, c, d, e, f] s =
      .accepted { s with params := ⟨a.toNat, b.toNat, if c.toNat < 8 then 8 else c.toNat, d.toNat, e.toNat, f.toNat⟩ }
        (if c.toNat < 8 then 1 else 0) [a, b, if c.toNat < 8 then 8 else c, d, e, f] := by
  have shown : byte (if c.toNat < 8 then 8 else c.toNat) = if c.toNat < 8 then 8 else c := by
    split
    · rfl
    · exact byte_toNat c
  have noted : bit (c.toNat < 8) = if c.toNat < 8 then 1 else 0 := by
    simp only [bit, decide_eq_true_eq]
  simp only [setLineParametersBody, if_neg h, paramsOf, LineParams.bytes, byte_toNat, max_eight, shown, noted]

theorem setLineParametersBody_form (p : List Byte) (s : State) (h : p.length ≠ 6) :
    setLineParametersBody p s = .refused .badForm 0 := by
  unfold setLineParametersBody
  split
  · exact absurd rfl h
  · rfl

/-! ### The banks -/

/-- The modifiers byte and the pointer choose the bank (R23). -/
theorem addressedBank_val (m : Byte) (s : State) : (addressedBank m s).val =
    if m.toNat.testBit 7 then 0 else if m.toNat.testBit 6 then m.toNat % 32 else s.bankPointer.val := by
  unfold addressedBank isCommon isOverride overrideBank
  split
  · rfl
  · split <;> rfl

theorem selectBankBody_form (p : List Byte) (s : State) (h : p.length ≠ 1) : selectBankBody p s = .refused .badForm 0 := by
  unfold selectBankBody
  split
  · exact absurd rfl h
  · rfl

theorem selectBankBody_range (a : Byte) (s : State) (h : 32 ≤ a.toNat) : selectBankBody [a] s = .refused .badForm 0 := by
  simp only [selectBankBody, finOf_eq_none.2 h]

theorem selectBankBody_bank (b : BankNo) (s : State) :
    selectBankBody [byte b.val] s = .accepted { s with bankPointer := b } b.val [] := by
  simp only [selectBankBody, finOf_byte (by decide) b]

theorem clearBankBody_free (m : Byte) (s : State) (h : s.banks[addressedBank m s].useCount = 0) :
    clearBankBody m s = .accepted (s.setBank (addressedBank m s) { s.banks[addressedBank m s] with steps := [] })
      (addressedBank m s).val [] := by
  simp only [clearBankBody, h, Nat.lt_irrefl, if_false]

theorem clearBankBody_used (m : Byte) (s : State) (h : 0 < s.banks[addressedBank m s].useCount) :
    clearBankBody m s = .refused .bankInUse s.banks[addressedBank m s].useCount := by
  simp only [clearBankBody, if_pos h]

theorem noPayload_form {p : List Byte} (body : State → Reply) (s : State) (h : p ≠ []) :
    noPayload p body s = .refused .badForm 0 := if_neg h

/-! ### SET RATE TABLE -/

/-- Entries below 2¹⁶ are read back from their bytes (R65). -/
theorem numbers16_be16 (l : List Nat) (h : ∀ n ∈ l, n < 65536) : numbers16 (l.flatMap be16) = l := by
  induction l with
  | nil => rfl
  | cons n l ih =>
    have tail := ih fun x hx => h x (List.mem_cons_of_mem n hx)
    have head := num16_be16 (h n List.mem_cons_self)
    show num16 (byte (n / 256)) (byte n) :: numbers16 (l.flatMap be16) = n :: l
    rw [head, tail]

theorem clampRate_eq (r : Nat) : clampRate r = if r < 64 then 64 else if 1023 < r then 1023 else r := by
  unfold clampRate
  split
  · omega
  · split <;> omega

theorem clampRate_ne (r : Nat) : clampRate r ≠ r ↔ r < 64 ∨ 1023 < r := by
  unfold clampRate
  omega

theorem be16_flatMap_length (l : List Nat) : (l.flatMap be16).length = 2 * l.length := by
  simp [List.length_flatMap, be16, Nat.mul_comm]

/-- The table stored from a list of seventeen entries is theirs, each clamped (R65). -/
theorem ratesOf_toList (entries : Vector Nat 17) : ratesOf entries.toList = entries.map clampRate := by
  ext i hi
  simp [ratesOf]

theorem setRateTableBody_entries (entries : Vector Nat 17) (s : State) (h : ∀ i : Fin 17, entries[i] < 65536) :
    let stored := entries.map fun r => if r < 64 then 64 else if 1023 < r then 1023 else r
    setRateTableBody (entries.toList.flatMap be16) s = .accepted { s with rates := stored }
      (entries.toList.countP fun r => decide (r < 64 ∨ 1023 < r)) (stored.toList.flatMap be16) := by
  intro stored
  have small : ∀ n ∈ entries.toList, n < 65536 := by
    intro n hn
    obtain ⟨i, hi, rfl⟩ := Vector.getElem_of_mem (Vector.mem_toList_iff.1 hn)
    exact h ⟨i, hi⟩
  have length : (entries.toList.flatMap be16).length = 34 := by rw [be16_flatMap_length, Vector.length_toList]
  have table : ratesOf entries.toList = stored := by
    rw [ratesOf_toList]
    exact congrArg (entries.map ·) (funext clampRate_eq)
  simp only [setRateTableBody, if_pos length, numbers16_be16 _ small, table, clampRate_ne, State.rateBytes]

theorem setRateTableBody_form (p : List Byte) (s : State) (h : p.length ≠ 34) : setRateTableBody p s = .refused .badForm 0 :=
  if_neg h

/-! ### The statement -/

theorem lineParameters_set (m a b c d e f : Byte) (p : List Byte) (s : State) (hears : s.listening = true) (short : p.length ≤ 64) :
    (f ≠ 0 → exec (.setLineParameters m [a, b, c, d, e, f]) s =
      .next (s.okay 0x03 (if c.toNat < 8 then 1 else 0) [a, b, if c.toNat < 8 then 8 else c, d, e, f]
        { s.takeFrame 9 with params := ⟨a.toNat, b.toNat, if c.toNat < 8 then 8 else c.toNat, d.toNat, e.toNat, f.toNat⟩ })) ∧
    (f = 0 → exec (.setLineParameters m [a, b, c, d, e, f]) s = .next (s.refusedAs 0x03 9 .badForm 6)) ∧
    (p.length ≠ 6 → exec (.setLineParameters m p) s = .next (s.refusedAs 0x03 (3 + p.length) .badForm 0)) := by
  have six : [a, b, c, d, e, f].length ≤ 64 := by simp
  refine ⟨fun h => ?_, fun h => ?_, fun h => ?_⟩
  · exact request_accepted hears six (setLineParametersBody_six a b c d e f _ h)
  · exact request_refused hears six (if_pos h)
  · exact request_refused hears short (setLineParametersBody_form p _ h)

/-- Settles O45: each rule's answer on the state of the take, in each of its cases. -/
theorem parametersBanksAndRatesAreSet : Obligations.ParametersBanksAndRatesAreSet := by
  unfold Obligations.ParametersBanksAndRatesAreSet
  refine ⟨lineParameters_set, fun m a b p s hears short => ?_, fun m entries p s hears short small => ?_⟩
  · refine ⟨addressedBank_val m _, ?_, fun h => ?_, fun h => ?_, fun h => ?_, fun h => ?_, fun h => ?_⟩
    · exact request_accepted hears (by simp) (selectBankBody_bank b _)
    · exact request_refused hears (by simp) (selectBankBody_range a _ h)
    · exact request_refused hears short (selectBankBody_form p _ h)
    · exact request_accepted hears (by simp) (clearBankBody_free m _ h)
    · exact request_refused hears (by simp) (clearBankBody_used m _ h)
    · exact request_refused hears short (noPayload_form _ _ h)
  · have length : (entries.toList.flatMap be16).length = 34 := by rw [be16_flatMap_length, Vector.length_toList]
    refine ⟨?_, fun h => request_refused hears short (setRateTableBody_form p _ h)⟩
    have taken := setRateTableBody_entries entries (s.takeFrame (3 + (entries.toList.flatMap be16).length)) small
    rw [length] at taken
    exact request_accepted hears (by omega) (by rw [length]; exact taken)

end Sys2Proof.Machine.RecipeBanks
end

section
/-! LOAD STEPS (R26 to R29): which step images are malformed and what the others store (R19, R20, R28, R185), and the rule of the command on
the images of a frame. -/

namespace Sys2Proof.Machine.RecipeBanks

/-! ### The fields of a step image -/

theorem byte_eq_iff {b : Byte} {n : Nat} (small : n < 256) : b = byte n ↔ b.toNat = n := by
  rw [← BitVec.toNat_inj, byte_toNat_of_lt small]

theorem classOf_code (x : StationClass) : classOf (byte x.code) = some x := by cases x <;> rfl

theorem kindOf_code (y : StepKind) : kindOf (byte y.code) = some y := by cases y <;> rfl

theorem classOf_eq_some {b : Byte} {x : StationClass} : classOf b = some x ↔ b.toNat = x.code := by
  constructor
  · intro h
    unfold classOf at h
    split at h <;> cases h <;> assumption
  · intro h
    have small : x.code < 256 := by cases x <;> decide
    rw [(byte_eq_iff small).2 h, classOf_code]

theorem classOf_eq_none {b : Byte} : classOf b = none ↔ 8 < b.toNat := by
  unfold classOf
  split <;> simp_all
  omega

theorem kindOf_eq_some {b : Byte} {y : StepKind} : kindOf b = some y ↔ b.toNat = y.code := by
  constructor
  · intro h
    unfold kindOf at h
    split at h <;> cases h <;> assumption
  · intro h
    have small : y.code < 256 := by cases y <;> decide
    rw [(byte_eq_iff small).2 h, kindOf_code]

theorem kindOf_eq_none {b : Byte} : kindOf b = none ↔ 2 < b.toNat := by
  unfold kindOf
  split <;> simp_all
  omega

theorem pinnedOf_eq_none {b : Byte} : pinnedOf b = none ↔ 15 < b.toNat ∧ b ≠ 0xFF := by
  unfold pinnedOf stationOf
  split
  · simp_all
  · next present =>
    rw [Option.map_eq_none_iff, finOf_eq_none]
    exact ⟨fun h => ⟨h, present⟩, fun h => h.1⟩

theorem pinnedOf_eq_some {b : Byte} {p : Option StationNo} (h : pinnedOf b = some p) :
    p.map Fin.val = if b = 0xFF then none else some b.toNat := by
  unfold pinnedOf stationOf finOf at h
  split at h
  · next absent => cases h; rw [if_pos absent]; rfl
  · next present =>
    rw [if_neg present]
    split at h <;> cases h
    rfl

theorem isStepClass_iff (x : StationClass) : isStepClass x = true ↔ 2 ≤ x.code ∧ x.code ≤ 7 := by cases x <;> decide
theorem isDevelop_iff (x : StationClass) : (x == .develop) = decide (x.code = 3) := by cases x <;> rfl
theorem isExact_iff (y : StepKind) : (y == .exactDose) = decide (y.code = 0) := by cases y <;> rfl
theorem isTimed_iff (y : StepKind) : y = .timed ↔ y.code = 1 := by cases y <;> decide

/-! ### Step images -/

/-- The numbers of an image whose class, kind and pinned station have a meaning fit a step (R28). -/
def fitsStep (c k time overstay : Nat) : Prop :=
  2 ≤ c ∧ c ≤ 7 ∧ (k = 0 ↔ c = 3) ∧ 1 ≤ time ∧ time ≤ 16383 ∧ (k = 1 → overstay ≤ 16383)

/-- The step an image stores, where its numbers fit one (R28); of its overstay only a TIMED step keeps any. -/
theorem stepOf_of_fits {c k t1 t0 o1 o0 i d : Byte} {x : StationClass} {y : StepKind} {p : Option StationNo}
    (cls : classOf c = some x) (kind : kindOf k = some y) (pin : pinnedOf i = some p)
    (fits : fitsStep c.toNat k.toNat (num16 t1 t0) (num16 o1 o0)) : stepOf [c, k, t1, t0, o1, o0, i, d] =
      some { cls := x, pinned := p, kind := y, time := num16 t1 t0, maxOverstay := if k.toNat = 1 then num16 o1 o0 else 0,
             drain := d.toNat } := by
  obtain ⟨low, high, develop, least, most, long⟩ := fits
  have hx := classOf_eq_some.1 cls
  have hy := kindOf_eq_some.1 kind
  have agree : decide (y.code = 0) = decide (x.code = 3) := decide_eq_decide.2 (by omega)
  have short : ¬(y.code = 1 ∧ 16383 < num16 o1 o0) := by omega
  have step : isStepClass x = true := (isStepClass_iff x).2 (by omega)
  have keeps : (if y = .timed then num16 o1 o0 else 0) = if k.toNat = 1 then num16 o1 o0 else 0 := by
    simp only [isTimed_iff, hy]
  have timed : (y == .timed && decide (16383 < num16 o1 o0)) = false := by
    simpa [isTimed_iff] using fun e => long (hy.trans e)
  simp only [stepOf, cls, kind, pin, step, isExact_iff, isDevelop_iff, agree, least, most, timed, keeps, beq_self_eq_true,
    decide_true, Bool.and_self, Bool.not_false, if_true]

/-- An image whose numbers fit no step is malformed (R28). -/
theorem stepOf_of_not_fits {c k t1 t0 o1 o0 i d : Byte} {x : StationClass} {y : StepKind} {p : Option StationNo}
    (cls : classOf c = some x) (kind : kindOf k = some y) (pin : pinnedOf i = some p)
    (fits : ¬fitsStep c.toNat k.toNat (num16 t1 t0) (num16 o1 o0)) : stepOf [c, k, t1, t0, o1, o0, i, d] = none := by
  have hx := classOf_eq_some.1 cls
  have hy := kindOf_eq_some.1 kind
  simp only [stepOf, cls, kind, pin]
  refine if_neg fun test => fits ?_
  simp only [Bool.and_eq_true, isStepClass_iff, isExact_iff, isDevelop_iff, beq_iff_eq, decide_eq_decide, decide_eq_true_eq,
    Bool.not_eq_true', Bool.and_eq_false_iff, decide_eq_false_iff_not, beq_eq_false_iff_ne, ne_eq, isTimed_iff] at test
  unfold fitsStep
  omega

/-- An image is malformed exactly where a field of it is, or its numbers fit no step (R28). -/
theorem stepOf_eq_none {c k t1 t0 o1 o0 i d : Byte} : stepOf [c, k, t1, t0, o1, o0, i, d] = none ↔
    8 < c.toNat ∨ 2 < k.toNat ∨ (15 < i.toNat ∧ i ≠ 0xFF) ∨ ¬fitsStep c.toNat k.toNat (num16 t1 t0) (num16 o1 o0) := by
  rw [← classOf_eq_none, ← kindOf_eq_none, ← pinnedOf_eq_none]
  cases cls : classOf c with
  | none => simp [stepOf, cls]
  | some x => cases kind : kindOf k with
    | none => simp [stepOf, cls, kind]
    | some y => cases pin : pinnedOf i with
      | none => simp [stepOf, cls, kind, pin]
      | some p =>
        by_cases fits : fitsStep c.toNat k.toNat (num16 t1 t0) (num16 o1 o0)
        · simp [stepOf_of_fits cls kind pin fits, fits]
        · simp [stepOf_of_not_fits cls kind pin fits, fits]

/-- The fields of the step that an image stores (R28, R185). -/
theorem stepOf_eq_some {c k t1 t0 o1 o0 i d : Byte} {y : Step} (h : stepOf [c, k, t1, t0, o1, o0, i, d] = some y) :
    y.cls.code = c.toNat ∧ y.kind.code = k.toNat ∧ y.time = num16 t1 t0 ∧
      y.maxOverstay = (if k.toNat = 1 then num16 o1 o0 else 0) ∧
      y.pinned.map Fin.val = (if i = 0xFF then none else some i.toNat) ∧ y.drain = d.toNat := by
  have sound : stepOf [c, k, t1, t0, o1, o0, i, d] ≠ none := by simp [h]
  rw [Ne, stepOf_eq_none, ← classOf_eq_none, ← kindOf_eq_none, ← pinnedOf_eq_none] at sound
  obtain ⟨hc, hk, hi, fits⟩ : classOf c ≠ none ∧ kindOf k ≠ none ∧ pinnedOf i ≠ none ∧
      fitsStep c.toNat k.toNat (num16 t1 t0) (num16 o1 o0) := by tauto
  obtain ⟨x, cls⟩ := Option.ne_none_iff_exists'.1 hc
  obtain ⟨z, kind⟩ := Option.ne_none_iff_exists'.1 hk
  obtain ⟨p, pin⟩ := Option.ne_none_iff_exists'.1 hi
  rw [stepOf_of_fits cls kind pin fits] at h
  cases h
  exact ⟨(classOf_eq_some.1 cls).symm, (kindOf_eq_some.1 kind).symm, rfl, rfl, pinnedOf_eq_some pin, rfl⟩

/-- The image READ STEPS sends of a step that a bank can hold is read back as that step (R19, R20, R185). -/
theorem stepOf_image {k : Step} (h : k.storable) : stepOf k.image = some k := by
  obtain ⟨cls, develop, least, most, long, untimed, drain⟩ := h
  obtain ⟨low, high⟩ := (isStepClass_iff k.cls).1 cls
  have small : k.kind.code ≤ 2 := by cases k.kind <;> decide
  have hc : (byte k.cls.code).toNat = k.cls.code := byte_toNat_of_lt (by omega)
  have hk : (byte k.kind.code).toNat = k.kind.code := byte_toNat_of_lt (by omega)
  have pin : pinnedOf (match k.pinned with | some st => byte st.val | none => 0xFF) = some k.pinned := by
    cases k.pinned with
    | none => rfl
    | some st =>
      have apart : byte st.val ≠ 0xFF := by
        intro e
        have := congrArg BitVec.toNat e
        rw [byte_toNat_of_lt (by omega)] at this
        have : st.val = 255 := this
        omega
      simp only [pinnedOf, if_neg apart, stationOf, finOf_byte (k := 16) (by decide) st, Option.map_some]
  have time := num16_be16 (n := k.time) (by omega)
  have overstay := num16_be16 (n := k.maxOverstay) (by omega)
  have exactCode : k.kind.code = 0 ↔ k.cls.code = 3 := by
    rw [← decide_eq_true_iff (p := k.kind.code = 0), ← isExact_iff, beq_iff_eq, develop, ← beq_iff_eq, isDevelop_iff,
      decide_eq_true_iff]
  have fits : fitsStep (byte k.cls.code).toNat (byte k.kind.code).toNat (num16 (byte (k.time / 256)) (byte k.time))
      (num16 (byte (k.maxOverstay / 256)) (byte k.maxOverstay)) := by
    rw [hc, hk, time, overstay]
    exact ⟨low, high, exactCode, least, most, fun _ => long⟩
  refine (stepOf_of_fits (classOf_eq_some.2 hc) (kindOf_eq_some.2 hk) pin fits).trans ?_
  have kept : (if (byte k.kind.code).toNat = 1 then k.maxOverstay else 0) = k.maxOverstay := by
    split
    · rfl
    · next e => exact (untimed fun t => e (hk.trans ((isTimed_iff _).1 t))).symm
  rw [time, overstay, kept, byte_toNat_of_lt (by omega)]

/-! ### The images of a frame -/

/-- The image of 8 bytes, byte by byte. -/
theorem image_of_length {x : List Byte} (h : x.length = 8) : ∃ c k t1 t0 o1 o0 i d : Byte, x = [c, k, t1, t0, o1, o0, i, d] := by
  match x, h with
  | [c, k, t1, t0, o1, o0, i, d], _ => exact ⟨c, k, t1, t0, o1, o0, i, d, rfl⟩

/-- A payload of images of 8 bytes is cut into them (R26). -/
theorem stepImages_flatten (images : List (List Byte)) (h : ∀ x ∈ images, x.length = 8) : stepImages images.flatten = images := by
  induction images with
  | nil => rfl
  | cons x images ih =>
    obtain ⟨c, k, t1, t0, o1, o0, i, d, rfl⟩ := image_of_length (h x List.mem_cons_self)
    exact congrArg _ (ih fun y hy => h y (List.mem_cons_of_mem _ hy))

theorem flatten_length (images : List (List Byte)) (h : ∀ x ∈ images, x.length = 8) :
    images.flatten.length = 8 * images.length := by
  induction images with
  | nil => rfl
  | cons x images ih =>
    have tail := ih fun y hy => h y (List.mem_cons_of_mem _ hy)
    have head := h x List.mem_cons_self
    simp only [List.flatten_cons, List.length_append, List.length_cons]
    omega

/-- No image of a frame is malformed (R27). -/
theorem firstBadStep_eq_none (n : Nat) (images : List (List Byte)) (h : ∀ x ∈ images, stepOf x ≠ none) :
    firstBadStep n images = none := by
  induction images generalizing n with
  | nil => rfl
  | cons x images ih =>
    obtain ⟨y, e⟩ := Option.ne_none_iff_exists'.1 (h x List.mem_cons_self)
    simp only [firstBadStep, e]
    exact ih (n + 1) fun z hz => h z (List.mem_cons_of_mem _ hz)

/-- The first malformed image of a frame names the step (R27, R28). -/
theorem firstBadStep_eq_some (n i : Nat) (images : List (List Byte)) (x : List Byte) (here : images[i]? = some x)
    (bad : stepOf x = none) (first : ∀ j y, j < i → images[j]? = some y → stepOf y ≠ none) :
    firstBadStep n images = some (n + i) := by
  induction images generalizing n i with
  | nil => simp at here
  | cons z images ih =>
    cases i with
    | zero =>
      cases here
      simp [firstBadStep, bad]
    | succ i =>
      obtain ⟨y, e⟩ := Option.ne_none_iff_exists'.1 (first 0 z (by omega) rfl)
      simp only [firstBadStep, e]
      rw [ih (n + 1) i here fun j y hj hy => first (j + 1) y (by omega) hy]
      congr 1
      omega

/-- The steps of images that are not malformed, image by image. -/
theorem forall₂_stepOf (images : List (List Byte)) (h : ∀ x ∈ images, stepOf x ≠ none) :
    List.Forall₂ (fun x y => stepOf x = some y) images (images.filterMap stepOf) := by
  induction images with
  | nil => exact .nil
  | cons x images ih =>
    obtain ⟨y, e⟩ := Option.ne_none_iff_exists'.1 (h x List.mem_cons_self)
    rw [List.filterMap_cons_some e]
    exact .cons e (ih fun z hz => h z (List.mem_cons_of_mem _ hz))

theorem filterMap_stepOf_image (steps : List Step) (h : ∀ k ∈ steps, k.storable) :
    (steps.map Step.image).filterMap stepOf = steps := by
  rw [List.filterMap_map]
  calc
    steps.filterMap (stepOf ∘ Step.image) = steps.filterMap some := List.filterMap_congr fun k hk => stepOf_image (h k hk)
    _ = steps := List.filterMap_some

end Sys2Proof.Machine.RecipeBanks
end

section
/-! LOAD STEPS (R26 to R29): the rule on a frame of step images, test by test, and the settling of its statement. -/

namespace Sys2Proof.Machine.RecipeBanks

/-! ### The tests of the form -/

theorem loadStepsBody_short (m : Byte) (p : List Byte) (s : State) (h : p.length < 10 ∨ (p.length - 2) % 8 ≠ 0) :
    loadStepsBody m p s = .refused .badForm 0 := by
  unfold loadStepsBody
  split
  · next n f images =>
    simp only [List.length_cons] at h
    exact if_pos (by omega)
  · rfl

/-- What becomes of the images of a frame in sequence, which finds the steps `g` gathered (R27 to R29). -/
def imagesReply (bank : BankNo) (n f : Byte) (images : List (List Byte)) (g : List Step) (s : State) : Reply :=
  match firstBadStep (f.toNat + 1) images with
  | some bad => .refused .badStep bad
  | none =>
    let gathered := g ++ images.filterMap stepOf
    .accepted (s.takeSteps bank n.toNat gathered) 0 [byte bank.val, n, byte gathered.length, byte (bit (gathered.length = n.toNat))]

/-- The rule of LOAD STEPS once the form of its frame is accepted: the bank, the sequence, and the images in turn (R27 to R29). -/
def loadReply (bank : BankNo) (n f : Byte) (images : List (List Byte)) (s : State) : Reply :=
  if 0 < s.banks[bank].useCount then .refused .bankInUse s.banks[bank].useCount
  else if f ≠ 0 ∧ s.continuesLoad bank n.toNat f.toNat = false then .refused .loadSequence s.gatheredCount
  else imagesReply bank n f images (s.gatheredBefore f.toNat) s

variable {m n f : Byte} {images : List (List Byte)} {s : State}

/-- The rule on a frame that carries images of 8 bytes. -/
theorem loadStepsBody_images (whole : ∀ x ∈ images, x.length = 8) (any : 1 ≤ images.length) :
    loadStepsBody m (n :: f :: images.flatten) s =
      if n.toNat = 0 ∨ 12 < n.toNat then .refused .badForm 1
      else if 11 < f.toNat then .refused .badForm 2
      else if n.toNat < f.toNat + images.length then .refused .badForm 3
      else loadReply (addressedBank m s) n f images s := by
  have length := flatten_length images whole
  have cut : ¬(images.flatten.length < 8 ∨ images.flatten.length % 8 ≠ 0) := by omega
  have count : images.flatten.length / 8 = images.length := by omega
  simp only [loadStepsBody, if_neg cut, count, stepImages_flatten images whole]
  rfl

theorem loadStepsBody_total (whole : ∀ x ∈ images, x.length = 8) (any : 1 ≤ images.length) (h : n.toNat = 0 ∨ 12 < n.toNat) :
    loadStepsBody m (n :: f :: images.flatten) s = .refused .badForm 1 := by
  rw [loadStepsBody_images whole any, if_pos h]

theorem loadStepsBody_index (whole : ∀ x ∈ images, x.length = 8) (any : 1 ≤ images.length) (least : 1 ≤ n.toNat)
    (most : n.toNat ≤ 12) (h : 11 < f.toNat) : loadStepsBody m (n :: f :: images.flatten) s = .refused .badForm 2 := by
  rw [loadStepsBody_images whole any, if_neg (by omega), if_pos h]

theorem loadStepsBody_excess (whole : ∀ x ∈ images, x.length = 8) (any : 1 ≤ images.length) (least : 1 ≤ n.toNat)
    (most : n.toNat ≤ 12) (index : f.toNat ≤ 11) (h : n.toNat < f.toNat + images.length) :
    loadStepsBody m (n :: f :: images.flatten) s = .refused .badForm 3 := by
  rw [loadStepsBody_images whole any, if_neg (by omega), if_neg (by omega), if_pos h]

theorem loadStepsBody_fits (whole : ∀ x ∈ images, x.length = 8) (any : 1 ≤ images.length) (most : n.toNat ≤ 12)
    (index : f.toNat ≤ 11) (h : f.toNat + images.length ≤ n.toNat) :
    loadStepsBody m (n :: f :: images.flatten) s = loadReply (addressedBank m s) n f images s := by
  rw [loadStepsBody_images whole any, if_neg (by omega), if_neg (by omega), if_neg (by omega)]

/-! ### The bank, the sequence and the images -/

variable {bank : BankNo} {g : List Step}

theorem loadReply_used (h : 0 < s.banks[bank].useCount) :
    loadReply bank n f images s = .refused .bankInUse s.banks[bank].useCount := if_pos h

theorem gatheredCount_eq (s : State) : s.gatheredCount = (s.loadArea.map fun a => a.gathered.length).getD 0 := by
  unfold State.gatheredCount
  cases s.loadArea <;> rfl

theorem continuesLoad_eq_false {n f : Nat} (h : ∀ g, s.loadArea = some ⟨bank, n, g⟩ → g.length ≠ f) :
    s.continuesLoad bank n f = false := by
  unfold State.continuesLoad
  split
  · next a e =>
    refine Bool.eq_false_iff.2 fun same => ?_
    simp only [Bool.and_eq_true, beq_iff_eq] at same
    obtain ⟨⟨rfl, rfl⟩, length⟩ := same
    exact h a.gathered e length
  · rfl

theorem loadReply_sequence (free : s.banks[bank].useCount = 0) (later : f ≠ 0)
    (h : ∀ g, s.loadArea = some ⟨bank, n.toNat, g⟩ → g.length ≠ f.toNat) :
    loadReply bank n f images s = .refused .loadSequence ((s.loadArea.map fun a => a.gathered.length).getD 0) := by
  rw [loadReply, if_neg (by omega), if_pos ⟨later, continuesLoad_eq_false h⟩, gatheredCount_eq]

/-- A frame whose first index is `f` finds the steps `g` gathered: none where it begins a load, those of the open area of its bank and
total where it continues it (R27). -/
def Continues (bank : BankNo) (n f : Byte) (g : List Step) (s : State) : Prop :=
  f = 0 ∧ g = [] ∨ f ≠ 0 ∧ g.length = f.toNat ∧ s.loadArea = some ⟨bank, n.toNat, g⟩

theorem Continues.length (h : Continues bank n f g s) : g.length = f.toNat := by
  rcases h with ⟨rfl, rfl⟩ | ⟨_, length, _⟩
  · rfl
  · exact length

theorem Continues.gatheredBefore (h : Continues bank n f g s) : s.gatheredBefore f.toNat = g := by
  unfold State.gatheredBefore
  rcases h with ⟨rfl, rfl⟩ | ⟨later, _, area⟩
  · rfl
  · have later' : f.toNat ≠ 0 := fun e => later (BitVec.eq_of_toNat_eq e)
    rw [if_neg later', area]

/-- A frame in sequence is answered by its images (R27). -/
theorem loadReply_continues (free : s.banks[bank].useCount = 0) (h : Continues bank n f g s) :
    loadReply bank n f images s = imagesReply bank n f images g s := by
  have inSequence : ¬(f ≠ 0 ∧ s.continuesLoad bank n.toNat f.toNat = false) := by
    rintro ⟨later, broken⟩
    rcases h with ⟨first, _⟩ | ⟨_, length, area⟩
    · exact later first
    · simp [State.continuesLoad, area, length] at broken
  rw [loadReply, if_neg (by omega), if_neg inSequence, h.gatheredBefore]

theorem loadReply_badStep (free : s.banks[bank].useCount = 0) (h : Continues bank n f g s) {i : Nat} {x : List Byte}
    (here : images[i]? = some x) (bad : stepOf x = none) (first : ∀ j y, j < i → images[j]? = some y → stepOf y ≠ none) :
    loadReply bank n f images s = .refused .badStep (f.toNat + i + 1) := by
  rw [loadReply_continues free h, imagesReply, firstBadStep_eq_some _ i images x here bad first, Nat.add_right_comm]

/-- The frame that makes the gathered list whole writes the bank and closes the area (R29). -/
theorem loadReply_whole (free : s.banks[bank].useCount = 0) (h : Continues bank n f g s) (good : ∀ x ∈ images, stepOf x ≠ none)
    (full : f.toNat + images.length = n.toNat) : loadReply bank n f images s =
      .accepted { s with banks := s.banks.set bank.val { s.banks[bank] with steps := g ++ images.filterMap stepOf }, loadArea := none }
        0 [byte bank.val, n, n, 1] := by
  have length : (g ++ images.filterMap stepOf).length = n.toNat := by
    rw [List.length_append, h.length, ← (forall₂_stepOf images good).length_eq, full]
  rw [loadReply_continues free h, imagesReply, firstBadStep_eq_none _ images good]
  simp only [State.takeSteps, length, if_true, byte_toNat, decide_true]
  rfl

/-- A frame that leaves steps to come keeps the area open, and the bank as it was (R29). -/
theorem loadReply_partial (free : s.banks[bank].useCount = 0) (h : Continues bank n f g s) (good : ∀ x ∈ images, stepOf x ≠ none)
    (more : f.toNat + images.length ≠ n.toNat) : loadReply bank n f images s =
      .accepted { s with loadArea := some ⟨bank, n.toNat, g ++ images.filterMap stepOf⟩ }
        0 [byte bank.val, n, byte (f.toNat + images.length), 0] := by
  have length : (g ++ images.filterMap stepOf).length = f.toNat + images.length := by
    rw [List.length_append, h.length, ← (forall₂_stepOf images good).length_eq]
  rw [loadReply_continues free h, imagesReply, firstBadStep_eq_none _ images good]
  simp only [State.takeSteps, length, more, if_false, decide_false]
  rfl

/-! ### The statement -/

/-- The images of steps that a bank can hold are of 8 bytes each, and none is malformed. -/
theorem storable_images {steps : List Step} (h : ∀ k ∈ steps, k.storable) : (∀ x ∈ steps.map Step.image, x.length = 8) ∧
    ∀ x ∈ steps.map Step.image, stepOf x ≠ none := by
  constructor <;> intro x hx <;> obtain ⟨k, hk, rfl⟩ := List.mem_map.1 hx
  · rfl
  · simp [stepOf_image (h k hk)]

/-- Steps that a bank can hold, sent as READ STEPS sends them, are loaded (R26 to R29). -/
theorem storedSteps_loaded (m : Byte) (n f : Nat) (steps : List Step) (s : State) (hears : s.listening = true)
    (storable : ∀ k ∈ steps, k.storable) (least : 1 ≤ steps.length) (most : steps.length ≤ 7) (fits : f + steps.length ≤ n)
    (total : n ≤ 12) :
    let p : List Byte := byte n :: byte f :: steps.flatMap Step.image
    let t := s.takeFrame (3 + p.length)
    let bank := addressedBank m t
    (0 < t.banks[bank].useCount → exec (.loadSteps m p) s =
      .next (s.refusedAs 0x19 (3 + p.length) .bankInUse t.banks[bank].useCount)) ∧
    (t.banks[bank].useCount = 0 → 0 < f → (∀ g, t.loadArea = some ⟨bank, n, g⟩ → g.length ≠ f) →
      exec (.loadSteps m p) s = .next (s.refusedAs 0x19 (3 + p.length) .loadSequence
        ((t.loadArea.map fun a => a.gathered.length).getD 0))) ∧
    (t.banks[bank].useCount = 0 → ∀ g, (f = 0 ∧ g = [] ∨ 0 < f ∧ g.length = f ∧ t.loadArea = some ⟨bank, n, g⟩) →
      (f + steps.length = n → exec (.loadSteps m p) s = .next (s.okay 0x19 0 [byte bank.val, byte n, byte n, 1]
        { t with banks := t.banks.set bank.val { t.banks[bank] with steps := g ++ steps }, loadArea := none })) ∧
      (f + steps.length < n → exec (.loadSteps m p) s = .next (s.okay 0x19 0
        [byte bank.val, byte n, byte (f + steps.length), 0] { t with loadArea := some ⟨bank, n, g ++ steps⟩ }))) := by
  intro p t bank
  obtain ⟨whole, good⟩ := storable_images storable
  have hn : (byte n).toNat = n := byte_toNat_of_lt (by omega)
  have hf : (byte f).toNat = f := byte_toNat_of_lt (by omega)
  have count : (steps.map Step.image).length = steps.length := List.length_map ..
  have later : 0 < f → byte f ≠ 0 := fun h e => by
    have : (byte f).toNat = 0 := congrArg BitVec.toNat e
    omega
  have short : p.length ≤ 64 := by
    have := flatten_length _ whole
    simp only [p, List.length_cons, List.flatMap_def]
    omega
  have body : loadStepsBody m p t = loadReply bank (byte n) (byte f) (steps.map Step.image) t := by
    simp only [p, List.flatMap_def]
    exact loadStepsBody_fits whole (by omega) (by omega) (by omega) (by omega)
  have continues : ∀ g, (f = 0 ∧ g = [] ∨ 0 < f ∧ g.length = f ∧ t.loadArea = some ⟨bank, n, g⟩) →
      Continues bank (byte n) (byte f) g t := by
    rintro g (⟨rfl, rfl⟩ | ⟨pos, length, area⟩)
    · exact .inl ⟨rfl, rfl⟩
    · exact .inr ⟨later pos, length.trans hf.symm, hn.symm ▸ area⟩
  refine ⟨fun used => ?_, fun free pos broken => ?_, fun free g seq => ⟨fun full => ?_, fun more => ?_⟩⟩
  · exact request_refused hears short (body.trans (loadReply_used used))
  · exact request_refused hears short (body.trans (loadReply_sequence free (later pos) (by rwa [hn, hf])))
  · have answer := loadReply_whole free (continues g seq) good (by omega)
    rw [filterMap_stepOf_image steps storable] at answer
    exact request_accepted hears short (body.trans answer)
  · have answer := loadReply_partial free (continues g seq) good (by omega)
    rw [filterMap_stepOf_image steps storable, hn, hf, count] at answer
    exact request_accepted hears short (body.trans answer)

/-- An image that no step can be read from (R28), as the statement of LOAD STEPS puts it. -/
theorem malformed_iff (x : List Byte) (h : x.length = 8) : (∀ c k t1 t0 o1 o0 i d : Byte, x = [c, k, t1, t0, o1, o0, i, d] →
      c.toNat < 2 ∨ 7 < c.toNat ∨ 2 < k.toNat ∨ (k = 0 ∧ c ≠ 3) ∨ (c = 3 ∧ k ≠ 0) ∨ t1.toNat * 256 + t0.toNat = 0 ∨
        16383 < t1.toNat * 256 + t0.toNat ∨ (k = 1 ∧ 16383 < o1.toNat * 256 + o0.toNat) ∨ (15 < i.toNat ∧ i ≠ 0xFF)) ↔
    stepOf x = none := by
  obtain ⟨c, k, t1, t0, o1, o0, i, d, rfl⟩ := image_of_length h
  have zero : k = 0 ↔ k.toNat = 0 := byte_eq_iff (n := 0) (by decide)
  have one : k = 1 ↔ k.toNat = 1 := byte_eq_iff (n := 1) (by decide)
  have three : c = 3 ↔ c.toNat = 3 := byte_eq_iff (n := 3) (by decide)
  have absent : i = 0xFF ↔ i.toNat = 255 := byte_eq_iff (n := 255) (by decide)
  rw [stepOf_eq_none]
  unfold fitsStep num16
  constructor
  · intro bad
    have := bad c k t1 t0 o1 o0 i d rfl
    simp only [ne_eq, zero, one, three, absent] at this ⊢
    omega
  · rintro bad _ _ _ _ _ _ _ _ ⟨⟩
    simp only [ne_eq, zero, one, three, absent] at bad ⊢
    omega

/-- What an image stores, as the statement of LOAD STEPS puts it. -/
theorem stored_of_stepOf {x : List Byte} {y : Step} (h : stepOf x = some y) :
    ∀ c k t1 t0 o1 o0 i d : Byte, x = [c, k, t1, t0, o1, o0, i, d] →
      y.cls.code = c.toNat ∧ y.kind.code = k.toNat ∧ y.time = t1.toNat * 256 + t0.toNat ∧
        y.maxOverstay = (if k = 1 then o1.toNat * 256 + o0.toNat else 0) ∧
        y.pinned.map Fin.val = (if i = 0xFF then none else some i.toNat) ∧ y.drain = d.toNat := by
  rintro c k t1 t0 o1 o0 i d rfl
  have one : k = 1 ↔ k.toNat = 1 := byte_eq_iff (n := 1) (by decide)
  simp only [one]
  exact stepOf_eq_some h

/-- Settles O46: the images of storable steps read back as they are, so that the statement for steps is the one for their images; a frame of
images passes the tests of its form, then those of the bank, the sequence and each image. -/
theorem recipesAreLoadedWhole : Obligations.RecipesAreLoadedWhole := by
  unfold Obligations.RecipesAreLoadedWhole
  refine ⟨storedSteps_loaded, fun m p s hears fits short => request_refused hears fits (loadStepsBody_short m p _ short), ?_⟩
  intro m n f images s hears whole least most p t bank refuses malformed stored
  have short : p.length ≤ 64 := by
    have := flatten_length images whole
    simp only [p, List.length_cons]
    omega
  have refused : ∀ {r d}, loadStepsBody m p t = .refused r d → refuses r d := request_refused hears short
  have bad : ∀ x ∈ images, (malformed x ↔ stepOf x = none) := fun x hx => malformed_iff x (whole x hx)
  refine ⟨fun h => ?_, fun low high h => ?_, fun low high index h => ?_, fun low high index fits => ?_⟩
  · exact refused (loadStepsBody_total whole least h)
  · exact refused (loadStepsBody_index whole least low high h)
  · exact refused (loadStepsBody_excess whole least low high index h)
  · have body : loadStepsBody m p t = loadReply bank n f images t := loadStepsBody_fits whole least high index fits
    refine ⟨fun used => ?_, fun free later broken => ?_, fun free g seq => ⟨fun i x here mal first => ?_, fun sound => ?_⟩⟩
    · exact refused (body.trans (loadReply_used used))
    · exact refused (body.trans (loadReply_sequence free later broken))
    · refine refused (body.trans (loadReply_badStep free seq here ((bad x (List.mem_of_getElem? here)).1 mal) fun j y hj hy none => ?_))
      exact first j y hj hy ((bad y (List.mem_of_getElem? hy)).2 none)
    · have good : ∀ x ∈ images, stepOf x ≠ none := fun x hx none => sound x hx ((bad x hx).2 none)
      refine ⟨images.filterMap stepOf, (forall₂_stepOf images good).imp fun x y => stored_of_stepOf, ?_⟩
      split
      · next full => exact request_accepted hears short (body.trans (loadReply_whole free seq good full))
      · next more => exact request_accepted hears short (body.trans (loadReply_partial free seq good more))

end Sys2Proof.Machine.RecipeBanks
end

section
/-! ADMIT (R39 to R41): its tests in their order. -/

namespace Sys2Proof.Machine.RecipeBanks

/-! ### The first of a table -/

/-- In a list that rises, the first element at which `f` answers is the least one. -/
theorem findSome?_of_least {n : Nat} {β : Type} {f : Fin n → Option β} {l : List (Fin n)} (rises : l.Pairwise (· < ·)) {i : Fin n}
    {b : β} (mem : i ∈ l) (here : f i = some b) (before : ∀ j, j < i → f j = none) : l.findSome? f = some b := by
  induction l with
  | nil => simp at mem
  | cons x l ih =>
    obtain ⟨least, tail⟩ := List.pairwise_cons.1 rises
    rcases List.mem_cons.1 mem with rfl | mem
    · simp [here]
    · simp [before x (least i mem), ih tail mem]

/-- In a list that rises, the first element that passes a test is the least one. -/
theorem find?_of_least {n : Nat} {p : Fin n → Bool} {l : List (Fin n)} (rises : l.Pairwise (· < ·)) {i : Fin n} (mem : i ∈ l)
    (here : p i = true) (before : ∀ j, j < i → p j = false) : l.find? p = some i := by
  rw [← List.findSome?_guard]
  exact findSome?_of_least rises mem (by simp [here]) fun j hj => by simp [before j hj]

theorem vacantSlot_of_lowest {s : State} {slot : Slot} (vacant : s.hangers[slot] = none)
    (before : ∀ i, i < slot → s.hangers[i] ≠ none) : s.vacantSlot = some slot :=
  find?_of_least (List.pairwise_lt_finRange 48) (List.mem_finRange slot) (Option.isNone_iff_eq_none.2 vacant) fun i hi =>
    Option.isNone_eq_false_iff.2 (Option.isSome_iff_ne_none.2 (before i hi))

theorem vacantSlot_of_full {s : State} (full : ∀ i : Slot, s.hangers[i] ≠ none) : s.vacantSlot = none :=
  List.find?_eq_none.2 fun i _ vacant => full i (Option.isNone_iff_eq_none.1 vacant)

/-! ### The stations a recipe needs -/

theorem hasClass_iff (s : State) (c : StationClass) : s.hasClass c = true ↔ ∃ st : StationNo, s.stations[st].cls = c := by
  unfold State.hasClass
  simp only [List.any_eq_true, Vector.mem_toList_iff, beq_iff_eq]
  constructor
  · rintro ⟨x, mem, e⟩
    obtain ⟨i, hi, rfl⟩ := Vector.getElem_of_mem mem
    exact ⟨⟨i, hi⟩, e⟩
  · rintro ⟨st, e⟩
    exact ⟨_, Vector.getElem_mem st.isLt, e⟩

theorem stepServed_pinned {s : State} {k : Step} {st : StationNo} (pin : k.pinned = some st) :
    s.stepServed k = true ↔ s.stations[st].cls = k.cls := by
  simp [State.stepServed, pin]

theorem stepServed_free {s : State} {k : Step} (pin : k.pinned = none) :
    s.stepServed k = true ↔ ∃ st : StationNo, s.stations[st].cls = k.cls := by
  rw [← hasClass_iff]
  simp [State.stepServed, pin]

/-- The first step without a station is the leg that fails (R40). -/
theorem failedLeg_step {s : State} {k : Step} (j n : Nat) (steps : List Step) (here : steps[n]? = some k) (bad : s.stepServed k = false)
    (before : ∀ i x, i < n → steps[i]? = some x → s.stepServed x = true) : s.failedLeg j steps = some (j + n) := by
  induction steps generalizing j n with
  | nil => simp at here
  | cons x steps ih =>
    cases n with
    | zero =>
      cases here
      simp [State.failedLeg, bad]
    | succ n =>
      have served : s.stepServed x = true := before 0 x (by omega) rfl
      rw [State.failedLeg, if_pos served, ih (j + 1) n here fun i y hi hy => before (i + 1) y (by omega) hy]
      congr 1
      omega

/-- Where every step has a station, the unload leg alone may fail (R40). -/
theorem failedLeg_served {s : State} (j : Nat) (steps : List Step) (served : ∀ k ∈ steps, s.stepServed k = true) :
    s.failedLeg j steps = if s.hasClass .unload then none else some (j + steps.length) := by
  induction steps generalizing j with
  | nil => rfl
  | cons x steps ih =>
    rw [State.failedLeg, if_pos (served x List.mem_cons_self), ih (j + 1) fun k hk => served k (List.mem_cons_of_mem x hk),
      List.length_cons, Nat.add_right_comm, Nat.add_assoc]

/-! ### The load bay -/

theorem bayFree_iff (x : Station) (b : BayNo) : x.bayFree b = true ↔ b.val < x.bayCount ∧ x.bays[b].state = .empty := by
  simp [Station.bayFree]

theorem firstFree_eq_none {x : Station} (h : ∀ b : BayNo, ¬(b.val < x.bayCount ∧ x.bays[b].state = .empty)) : x.firstFree = none :=
  List.find?_eq_none.2 fun b _ free => h b ((bayFree_iff x b).1 free)

/-- A bay that a LOAD station has free (R41). -/
def IsLoadBay (s : State) (r : BayRef) : Prop :=
  s.stations[r.station].cls = .load ∧ r.bay.val < s.stations[r.station].bayCount ∧ (s.bayAt r).state = .empty

theorem loadBay_of_none {s : State} (h : ∀ r, ¬IsLoadBay s r) : s.loadBay = none := by
  refine List.findSome?_eq_none_iff.2 fun st _ => ?_
  split
  · next load => rw [firstFree_eq_none fun b free => h ⟨st, b⟩ ⟨load, free⟩]; rfl
  · rfl

/-- The lowest free bay of the lowest LOAD station that has one is the load bay (R41). -/
theorem loadBay_of_least {s : State} {d : BayRef} (h : IsLoadBay s d)
    (least : ∀ r, IsLoadBay s r → d.station < r.station ∨ d.station = r.station ∧ d.bay ≤ r.bay) : s.loadBay = some d := by
  obtain ⟨load, free⟩ := h
  have first : s.stations[d.station].firstFree = some d.bay := by
    refine find?_of_least (List.pairwise_lt_finRange 4) (List.mem_finRange _) ((bayFree_iff _ _).2 free) fun b before => ?_
    refine Bool.eq_false_iff.2 fun free => ?_
    rcases least ⟨d.station, b⟩ ⟨load, (bayFree_iff _ _).1 free⟩ with lower | ⟨_, low⟩
    · exact absurd lower (lt_irrefl _)
    · exact absurd before (not_lt.2 low)
  refine findSome?_of_least (List.pairwise_lt_finRange 16) (List.mem_finRange d.station) ?_ fun st before => ?_
  · rw [if_pos load, first]
    rfl
  · split
    · next load' =>
      rw [firstFree_eq_none fun b free => ?_]
      · rfl
      · rcases least ⟨st, b⟩ ⟨load', free⟩ with lower | ⟨same, _⟩
        · exact absurd before (not_lt.2 lower.le)
        · exact absurd same before.ne'
    · rfl

/-! ### The tests in their order -/

/-- The rule of ADMIT once a vacant slot is found: the tag, the recipe, its stations and the load bay (R39 to R41). -/
def admitReply (bank : BankNo) (tag : Nat) (push : Int) (area : Nat) (slot : Slot) (s : State) : Reply :=
  match s.slotOfTag tag with
  | some other => .refused .duplicateTag other.val
  | none =>
    if s.banks[bank].steps = [] then .refused .emptyBank bank.val
    else match s.failedLeg 1 s.banks[bank].steps with
    | some leg => .refused .noStation leg
    | none => match s.loadBay with
      | none => .refused .noLoadBay 0
      | some d => .accepted (s.enterHanger slot (admitted tag bank push area d s.beat) d)
          slot.val ([byte slot.val, placeByte (some d)] ++ be32 s.beat.toNat)

variable {m t1 t0 p1 p0 a1 a0 : Byte} {s : State}

theorem admitBody_form {p : List Byte} (h : p.length ≠ 6) : admitBody m p s = .refused .badForm 0 := by
  unfold admitBody
  split
  · exact absurd rfl h
  · rfl

theorem admitBody_tag (h : num16 t1 t0 = 0 ∨ 4095 < num16 t1 t0) : admitBody m [t1, t0, p1, p0, a1, a0] s = .refused .badForm 1 := by
  simp only [admitBody, if_pos h]

section

variable (tag : ¬(num16 t1 t0 = 0 ∨ 4095 < num16 t1 t0))
include tag

theorem admitBody_config (h : s.lineState = .config) : admitBody m [t1, t0, p1, p0, a1, a0] s = .refused .wrongLineState 0 := by
  simp only [admitBody, if_neg tag, h, if_true]
  rfl

theorem admitBody_stopped (h : s.lineState = .stopped) : admitBody m [t1, t0, p1, p0, a1, a0] s = .refused .lineStopped 0 := by
  simp only [admitBody, if_neg tag, h, if_true, reduceCtorEq, if_false]

theorem admitBody_full (running : s.lineState = .run ∨ s.lineState = .paused) (full : s.vacantSlot = none) :
    admitBody m [t1, t0, p1, p0, a1, a0] s = .refused .noSlot 0 := by
  rcases running with h | h <;> simp only [admitBody, if_neg tag, h, reduceCtorEq, if_false, full]

theorem admitBody_vacant (running : s.lineState = .run ∨ s.lineState = .paused) {slot : Slot} (vacant : s.vacantSlot = some slot) :
    admitBody m [t1, t0, p1, p0, a1, a0] s = admitReply (addressedBank m s) (num16 t1 t0) (clampPush (signed16 p1 p0))
      (clampArea (num16 a1 a0)) slot s := by
  rcases running with h | h <;> (simp only [admitBody, if_neg tag, h, reduceCtorEq, if_false, vacant]; rfl)

end

section

variable {bank : BankNo} {tag area : Nat} {push : Int} {slot : Slot}

theorem admitReply_duplicate {other : Slot} (h : s.slotOfTag tag = some other) :
    admitReply bank tag push area slot s = .refused .duplicateTag other.val := by
  simp only [admitReply, h]

variable (fresh : s.slotOfTag tag = none)
include fresh

theorem admitReply_empty (h : s.banks[bank].steps = []) : admitReply bank tag push area slot s = .refused .emptyBank bank.val := by
  simp only [admitReply, fresh, if_pos h]

variable (full : s.banks[bank].steps ≠ [])
include full

theorem admitReply_noStation {leg : Nat} (h : s.failedLeg 1 s.banks[bank].steps = some leg) :
    admitReply bank tag push area slot s = .refused .noStation leg := by
  simp only [admitReply, fresh, if_neg full, h]

variable (served : s.failedLeg 1 s.banks[bank].steps = none)
include served

theorem admitReply_noLoadBay (h : s.loadBay = none) : admitReply bank tag push area slot s = .refused .noLoadBay 0 := by
  simp only [admitReply, fresh, if_neg full, served, h]

theorem admitReply_accepted {d : BayRef} (h : s.loadBay = some d) : admitReply bank tag push area slot s =
    .accepted (s.enterHanger slot (admitted tag bank push area d s.beat) d) slot.val
      ([byte slot.val, placeByte (some d)] ++ be32 s.beat.toNat) := by
  simp only [admitReply, fresh, if_neg full, served, h]

end

end Sys2Proof.Machine.RecipeBanks
end

section
/-! The lodging of a LAUNCH request (R94 to R97, R113, R118, R119): what becomes of a record just admitted and of its request while the
arbiter walks the queue. -/

namespace Sys2Proof.Machine.RecipeBanks

/-! ### Marks -/

theorem mem_insertSubject (n i : Nat) (l : List Nat) : i ∈ insertSubject n l ↔ i = n ∨ i ∈ l := by
  induction l with
  | nil => simp [insertSubject]
  | cons x l ih =>
    unfold insertSubject
    split
    · exact List.mem_cons
    · split
      · next same => subst same; simp
      · simp only [List.mem_cons, ih, or_left_comm]

theorem hasMark_iff (s : State) (k : Kind) (n : Nat) : s.hasMark k n = true ↔ n ∈ s.marked k := by
  simp [State.hasMark]

theorem kindNumbered_number (k : Kind) : kindNumbered k.number.val = some k := by cases k <;> rfl

theorem number_injective {k l : Kind} (h : k.number = l.number) : k = l := by
  have same := kindNumbered_number k
  rw [h, kindNumbered_number] at same
  exact (Option.some.inj same).symm

theorem mark_marked (s : State) (k l : Kind) (n : Nat) :
    (s.mark k n).marked l = if l = k then insertSubject n (s.marked k) else s.marked l := by
  unfold State.marked State.mark
  rw [vector_get_set]
  split
  · next same => rw [if_pos (number_injective same)]; rfl
  · next apart => rw [if_neg fun e => apart (congrArg Kind.number e)]

/-- A mark set stays set when another is set (R175). -/
theorem hasMark_mark {s : State} {l : Kind} {i : Nat} (k : Kind) (n : Nat) (h : s.hasMark l i = true) :
    (s.mark k n).hasMark l i = true := by
  rw [hasMark_iff] at h ⊢
  rw [mark_marked]
  split
  · next same => subst same; exact (mem_insertSubject n i _).2 (.inr h)
  · exact h

theorem hasMark_mark_self (s : State) (k : Kind) (n : Nat) : (s.mark k n).hasMark k n = true := by
  rw [hasMark_iff, mark_marked, if_pos rfl, mem_insertSubject]
  exact .inl rfl

/-! ### What the line's writes leave -/

theorem putHanger_queue (s : State) (slot : Slot) (h : Hanger) : (s.putHanger slot h).queue = s.queue := by
  unfold State.putHanger
  split
  · split <;> rfl
  · rfl

theorem putHanger_hasMark {s : State} {l : Kind} {i : Nat} (slot : Slot) (h : Hanger) (m : s.hasMark l i = true) :
    (s.putHanger slot h).hasMark l i = true := by
  have kept : (s.setHanger slot (some h)).hasMark l i = true := m
  unfold State.putHanger
  dsimp only
  split
  · split
    · exact hasMark_mark _ _ kept
    · exact kept
  · exact hasMark_mark _ _ kept

/-- A record written into a vacant slot is marked RECORD_CHANGED (R37). -/
theorem putHanger_vacant_hasMark {s : State} {slot : Slot} (h : Hanger) (vacant : s.hangers[slot] = none) :
    (s.putHanger slot h).hasMark .recordChanged slot.val = true := by
  unfold State.putHanger
  rw [vacant]
  exact hasMark_mark_self _ _ _

theorem silenceAuto_queue (s : State) (ch : ChannelNo) : (s.silenceAuto ch).queue = s.queue := by
  unfold State.silenceAuto
  split <;> rfl

theorem silenceAuto_carriage (s : State) (ch : ChannelNo) (c : CarriageId) : (s.silenceAuto ch).carriage c = s.carriage c := by
  unfold State.silenceAuto
  cases c <;> split <;> rfl

theorem silenceAuto_hasMark (s : State) (ch : ChannelNo) (k : Kind) (n : Nat) :
    (s.silenceAuto ch).hasMark k n = s.hasMark k n := by
  unfold State.silenceAuto
  split <;> rfl

theorem liftRecord_queue (s : State) (slot : Slot) : (s.liftRecord slot).queue = s.queue := by
  unfold State.liftRecord
  split
  · rfl
  · dsimp only
    split
    · exact putHanger_queue s slot _
    · exact putHanger_queue s slot _

theorem liftRecord_carriage (s : State) (slot : Slot) (c : CarriageId) : (s.liftRecord slot).carriage c = s.carriage c := by
  unfold State.liftRecord
  split
  · rfl
  · dsimp only
    split
    · exact (by cases c <;> rfl : _ = (s.putHanger slot _).carriage c).trans (s.putHanger_carriage slot _ c)
    · exact s.putHanger_carriage slot _ c

theorem liftRecord_hasMark {s : State} {k : Kind} {n : Nat} (slot : Slot) (m : s.hasMark k n = true) :
    (s.liftRecord slot).hasMark k n = true := by
  unfold State.liftRecord
  split
  · exact m
  · dsimp only
    split
    · exact hasMark_mark _ _ (putHanger_hasMark slot _ m)
    · exact putHanger_hasMark slot _ m

theorem liftRecord_get (s : State) (slot i : Slot) :
    (s.liftRecord slot).hangers[i] = if i = slot then (s.hangers[slot]).map s.liftedHanger else s.hangers[i] := by
  unfold State.liftRecord
  split
  · next vacant =>
    split
    · next same => rw [same, vacant]; rfl
    · rfl
  · next h live =>
    rw [live]
    dsimp only
    split
    · exact s.putHanger_get slot i _
    · exact s.putHanger_get slot i _

/-! ### A record just admitted -/

/-- A record as it was admitted, but for its state and its places, which a LIFT order and a reservation write (R50, R95). -/
def Fresh (h₀ h : Hanger) : Prop := ∃ st p e, h = { h₀ with state := st, position := p, destination := e }

/-- The record of a slot is fresh, and marked RECORD_CHANGED. -/
def Stands (slot : Slot) (h₀ : Hanger) (s : State) : Prop :=
  (∃ h, s.hangers[slot] = some h ∧ Fresh h₀ h) ∧ s.hasMark .recordChanged slot.val = true

/-- A LIFT order takes a record of leg 0 out of its bay and changes nothing else of it (R22, R50, R75). -/
theorem liftedHanger_of_launch (s : State) (h : Hanger) (launch : h.leg = 0) :
    s.liftedHanger h = { h with state := .inTransit, position := none } := by
  simp [State.liftedHanger, State.legKind, State.legStep, launch]

section

variable {slot : Slot} {h₀ : Hanger} (launch : h₀.leg = 0)

/-- What neither writes records nor clears marks keeps the record standing. -/
theorem Stands.of_same {s t : State} (h : Stands slot h₀ s) (table : t.hangers = s.hangers)
    (marks : t.marks = s.marks) : Stands slot h₀ t := by
  obtain ⟨⟨g, live, fresh⟩, marked⟩ := h
  refine ⟨⟨g, by rw [table]; exact live, fresh⟩, ?_⟩
  rw [hasMark_iff, State.marked, marks]
  exact (hasMark_iff s _ _).1 marked

theorem Stands.mark {s : State} (h : Stands slot h₀ s) (k : Kind) (n : Nat) : Stands slot h₀ (s.mark k n) :=
  ⟨h.1, hasMark_mark k n h.2⟩

include launch

theorem Stands.liftRecord {s : State} (h : Stands slot h₀ s) (i : Slot) : Stands slot h₀ (s.liftRecord i) := by
  obtain ⟨⟨g, live, st, p, e, rfl⟩, marked⟩ := h
  refine ⟨?_, liftRecord_hasMark i marked⟩
  rw [liftRecord_get]
  split
  · next same =>
    subst same
    rw [live]
    exact ⟨_, rfl, _, _, e, liftedHanger_of_launch s _ launch⟩
  · exact ⟨_, live, st, p, e, rfl⟩

end

end Sys2Proof.Machine.RecipeBanks
end

section
/-! The arbiter's walk of the queue, seen from one request (R113, R114, R118, R119): the request stays in the queue until a carriage
takes it as its job, and the job then stays the carriage's. -/

namespace Sys2Proof.Machine.RecipeBanks

/-! ### A carriage takes up a job -/

/-- Carriage `c` acts on its job `j` at the source, between `s` and `t`: it is free no longer, the other carriage and the queue stand as
they were, and of the records that of the job alone may be lifted (R119, R120). -/
structure Hoists (c : CarriageId) (j : Job) (s t : State) : Prop where
  queue : t.queue = s.queue
  other : t.carriage (otherCarriage c) = s.carriage (otherCarriage c)
  job : ∃ phase, (t.carriage c).job = some { j with phase := phase }
  busy : (t.carriage c).isFree = false
  table : ∀ i : Slot, t.hangers[i] = s.hangers[i] ∨ (i = j.slot ∧ t.hangers[i] = (s.hangers[i]).map s.liftedHanger)
  marks : ∀ k n, s.hasMark k n = true → t.hasMark k n = true

theorem carriage_or_other (c i : CarriageId) : i = c ∨ i = otherCarriage c := by
  cases c <;> cases i <;> decide

theorem sendOrder_carriage_other (s : State) (c : CarriageId) (o : Order) :
    (s.sendOrder c o).carriage (otherCarriage c) = s.carriage (otherCarriage c) := by
  cases c <;> rfl

theorem sendOrder_carriage (s : State) (c : CarriageId) (o : Order) : (s.sendOrder c o).carriage c =
    { s.carriage c with order := some ⟨o, beatPlus s.beat (s.allowance c o)⟩ } := by
  cases c <;> rfl

theorem setCarriage_hasMark (s : State) (c : CarriageId) (x : Carriage) (k : Kind) (n : Nat) :
    (s.setCarriage c x).hasMark k n = s.hasMark k n := by
  cases c <;> rfl

theorem sendOrder_hasMark (s : State) (c : CarriageId) (o : Order) (k : Kind) (n : Nat) :
    (s.sendOrder c o).hasMark k n = s.hasMark k n := by
  cases c <;> rfl

/-- What a LIFT order makes of a record rests on the banks alone (R22, R75). -/
theorem liftedHanger_congr {s t : State} (banks : t.banks = s.banks) : t.liftedHanger = s.liftedHanger := by
  funext h
  have legs : t.legKind h = s.legKind h := by simp only [State.legKind, State.legStep, State.stepsOf, banks]
  unfold State.liftedHanger
  rw [legs]

theorem liftOrder_hoists {s : State} {c : CarriageId} {j : Job} (h : (s.carriage c).job = some j) : Hoists c j s (s.liftOrder c) := by
  have e : s.liftOrder c = (((s.advance c .lifting).sendOrder c (.lift j.source.bay)).liftRecord j.slot).silenceAuto
      (valveOf j.source.station) := by
    simp only [State.liftOrder, h]
  have banks : ((s.advance c .lifting).sendOrder c (.lift j.source.bay)).banks = s.banks := by simp [State.advance]
  have own : ((s.liftOrder c).carriage c).job = some { j with phase := .lifting } ∧ ((s.liftOrder c).carriage c).isFree = false := by
    rw [e, silenceAuto_carriage, liftRecord_carriage, sendOrder_carriage]
    simp [State.advance, h, Carriage.isFree]
  refine ⟨?_, ?_, ⟨_, own.1⟩, own.2, fun i => ?_, fun k n m => ?_⟩
  · rw [e, silenceAuto_queue, liftRecord_queue]
    simp [State.advance]
  · rw [e, silenceAuto_carriage, liftRecord_carriage, sendOrder_carriage_other, State.advance, State.setCarriage_apart]
  · rw [e, State.silenceAuto_hangers, liftRecord_get, liftedHanger_congr banks]
    simp only [State.sendOrder_hangers, State.advance, State.setCarriage_hangers]
    split
    · next same => subst same; exact .inr ⟨rfl, rfl⟩
    · exact .inl rfl
  · rw [e, silenceAuto_hasMark]
    refine liftRecord_hasMark j.slot ?_
    rwa [sendOrder_hasMark, State.advance, setCarriage_hasMark]

theorem liftOrAwait_hoists {s : State} {c : CarriageId} {j : Job} (h : (s.carriage c).job = some j) :
    Hoists c j s (s.liftOrAwait c) := by
  have e : s.liftOrAwait c =
      if j.cls = .exactDose ∧ s.doseReached j.slot = false then s.advance c .awaitLift else s.liftOrder c := by
    simp only [State.liftOrAwait, h]
  rw [e]
  split
  · refine ⟨?_, ?_, ⟨.awaitLift, ?_⟩, ?_, fun i => .inl ?_, fun k n m => ?_⟩
    · simp [State.advance]
    · simp [State.advance]
    · simp [State.advance, h]
    · simp [State.advance, Carriage.isFree]
    · simp [State.advance]
    · rwa [State.advance, setCarriage_hasMark]
  · exact liftOrder_hoists h

/-- The job a grant gives (R118). -/
def grantedJob (r : Request) (e : BayRef) : Job where
  slot := r.slot
  cls := r.cls
  deadline := r.deadline
  source := r.source
  destination := e
  phase := .toSource
  drainEnd := none

/-- The queue without the requests of a slot. -/
def withoutSlot (slot : Slot) (s : State) : State := { s with queue := s.queue.filter fun q => q.slot != slot }

theorem withoutSlot_carriage (slot : Slot) (s : State) (c : CarriageId) : (withoutSlot slot s).carriage c = s.carriage c := by
  cases c <;> rfl

/-- All that a grant can do, once the request has left the queue (R118, R119). -/
theorem grant_hoists (s : State) (c : CarriageId) (r : Request) (e : BayRef) :
    Hoists c (grantedJob r e) (withoutSlot r.slot s) (s.grant c r e) := by
  unfold State.grant
  dsimp only
  split
  · have given := State.setCarriage_same (withoutSlot r.slot s) c
      { s.carriage c with job := some (grantedJob r e), span := some (hull2 r.source.station.val e.station.val) }
    obtain ⟨queue, other, job, busy, table, marks⟩ := liftOrAwait_hoists (congrArg Carriage.job given)
    refine ⟨?_, ?_, job, busy, fun i => ?_, fun k n m => ?_⟩
    · exact queue.trans (State.setCarriage_queue _ c _)
    · exact other.trans (State.setCarriage_apart _ c _)
    · have lifted := liftedHanger_congr (State.setCarriage_banks (withoutSlot r.slot s) c
        { s.carriage c with job := some (grantedJob r e), span := some (hull2 r.source.station.val e.station.val) })
      have := table i
      rw [State.setCarriage_hangers, lifted] at this
      exact this
    · exact marks k n (by rwa [setCarriage_hasMark])
  · refine ⟨?_, ?_, ⟨.toSource, ?_⟩, ?_, fun i => .inl ?_, fun k n m => ?_⟩
    · exact (State.sendOrder_queue _ c _).trans (State.setCarriage_queue _ c _)
    · exact (sendOrder_carriage_other _ c _).trans (State.setCarriage_apart _ c _)
    · rw [sendOrder_carriage, State.setCarriage_same]
      rfl
    · rw [sendOrder_carriage, State.setCarriage_same]
      rfl
    · rw [State.sendOrder_hangers, State.setCarriage_hangers]
      rfl
    · rw [sendOrder_hasMark, setCarriage_hasMark]
      exact m

theorem taker_isFree {s : State} {src dst : StationNo} {c : CarriageId} (h : s.taker src dst = some c) : (s.carriage c).isFree = true := by
  have free : ∀ c, s.couldTake c src dst = true → (s.carriage c).isFree = true := fun c could => (Bool.and_eq_true_iff.1 could).1
  unfold State.taker at h
  split at h
  · next one =>
    split at h <;> cases h
    · next two => exact free _ two.1
    · exact free _ one
  · split at h <;> cases h
    next two => exact free _ two

/-- The arbiter passes a request over, or grants it to a carriage that is free (R114). -/
theorem consider_cases (s : State) (r : Request) :
    s.consider r = s ∨ ∃ c e, (s.carriage c).isFree = true ∧ s.consider r = s.grant c r e := by
  unfold State.consider
  split
  · exact .inl rfl
  · next e _ =>
    split
    · exact .inl rfl
    · next c took => exact .inr ⟨c, e, taker_isFree took, rfl⟩

/-! ### A yield -/

/-- A yield moves no job, no record, no mark and no request, and frees no carriage (R114, R124). -/
structure Yields (s t : State) : Prop where
  queue : t.queue = s.queue
  table : t.hangers = s.hangers
  marks : t.marks = s.marks
  jobs : ∀ c, (t.carriage c).job = (s.carriage c).job
  busy : ∀ c, (s.carriage c).isFree = false → (t.carriage c).isFree = false

theorem Yields.refl (s : State) : Yields s s := ⟨rfl, rfl, rfl, fun _ => rfl, fun _ => id⟩

theorem Yields.trans {s t u : State} (a : Yields s t) (b : Yields t u) : Yields s u :=
  ⟨b.queue.trans a.queue, b.table.trans a.table, b.marks.trans a.marks, fun c => (b.jobs c).trans (a.jobs c),
    fun c h => b.busy c (a.busy c h)⟩

theorem yieldCarriage_yields (s : State) (c : CarriageId) : Yields s (s.yieldCarriage c) := by
  unfold State.yieldCarriage
  dsimp only
  split
  · exact .refl s
  · refine ⟨?_, ?_, ?_, fun i => ?_, fun i => ?_⟩
    · rw [State.sendOrder_queue, State.setCarriage_queue]
    · rw [State.sendOrder_hangers, State.setCarriage_hangers]
    · rw [State.sendOrder_marks, State.setCarriage_marks]
    · rcases carriage_or_other c i with rfl | rfl
      · rw [sendOrder_carriage, State.setCarriage_same]
      · rw [sendOrder_carriage_other, State.setCarriage_apart]
    · rcases carriage_or_other c i with rfl | rfl
      · rw [sendOrder_carriage, State.setCarriage_same]
        exact fun _ => rfl
      · rw [sendOrder_carriage_other, State.setCarriage_apart]
        exact id

theorem yieldTest_yields (s : State) (c : CarriageId) : Yields s (s.yieldTest c) := by
  unfold State.yieldTest
  split
  · split
    · split
      · split
        · exact .refl s
        · exact yieldCarriage_yields s _
      · exact .refl s
    · exact .refl s
  · exact .refl s

/-! ### One request on its way -/

/-- The request waits in the queue, its record ADMITTED in its bay. -/
def Waiting (q : Request) (s : State) : Prop :=
  (∃ h, s.hangers[q.slot] = some h ∧ h.state = .admitted ∧ h.position = some q.source) ∧ q ∈ s.queue

/-- A carriage has taken the request as its job, and its record is in its bay still or lifted. -/
def Taken (q : Request) (s : State) : Prop :=
  (∃ h, s.hangers[q.slot] = some h ∧
    (h.state = .admitted ∧ h.position = some q.source ∨ h.state = .inTransit ∧ h.position = none)) ∧
  ∃ c j, (s.carriage c).job = some j ∧ (s.carriage c).isFree = false ∧ j.slot = q.slot ∧ j.cls = q.cls ∧
    j.deadline = q.deadline ∧ j.source = q.source

variable {q r : Request} {s t : State}

/-- A request taken as a job stays so while another is granted. -/
theorem Taken.consider (h : Taken q s) (r : Request) : Taken q (s.consider r) := by
  rcases consider_cases s r with e | ⟨c, e, free, granted⟩
  · rwa [e]
  obtain ⟨⟨g, live, place⟩, c', j, job, busy, same⟩ := h
  have hoists := grant_hoists s c r e
  have apart : c' = otherCarriage c := (carriage_or_other c c').resolve_left fun same => by simp [same, free] at busy
  rw [granted]
  refine ⟨?_, c', j, ?_, ?_, same⟩
  · rcases hoists.table q.slot with kept | ⟨_, lifted⟩
    · exact ⟨g, kept.trans live, place⟩
    · exact ⟨_, lifted.trans (congrArg _ live), .inr ⟨rfl, rfl⟩⟩
  · rw [apart, hoists.other, withoutSlot_carriage, ← apart]
    exact job
  · rw [apart, hoists.other, withoutSlot_carriage, ← apart]
    exact busy

/-- A request that waits goes on waiting while another is considered, and is taken when it is granted itself. -/
theorem Waiting.consider (h : Waiting q s) (own : r.slot = q.slot → r = q) :
    Waiting q (s.consider r) ∨ Taken q (s.consider r) := by
  rcases consider_cases s r with e | ⟨c, e, _, granted⟩
  · exact .inl (by rwa [e])
  obtain ⟨⟨g, live, place⟩, mem⟩ := h
  have hoists := grant_hoists s c r e
  rw [granted]
  by_cases same : r.slot = q.slot
  · cases own same
    obtain ⟨phase, job⟩ := hoists.job
    refine .inr ⟨?_, c, _, job, hoists.busy, rfl, rfl, rfl, rfl⟩
    rcases hoists.table q.slot with kept | ⟨_, lifted⟩
    · exact ⟨g, kept.trans live, .inl place⟩
    · exact ⟨_, lifted.trans (congrArg _ live), .inr ⟨rfl, rfl⟩⟩
  · refine .inl ⟨⟨g, ?_, place⟩, ?_⟩
    · rcases hoists.table q.slot with kept | ⟨slot, _⟩
      · exact kept.trans live
      · exact absurd slot.symm same
    · rw [hoists.queue]
      exact List.mem_filter.2 ⟨mem, by simpa using Ne.symm same⟩

theorem Taken.walk (h : Taken q s) (l : List Request) : Taken q (l.foldl State.consider s) := by
  induction l generalizing s with
  | nil => exact h
  | cons r l ih => exact ih (h.consider r)

theorem Waiting.walk (h : Waiting q s) (l : List Request) (own : ∀ r ∈ l, r.slot = q.slot → r = q) :
    Waiting q (l.foldl State.consider s) ∨ Taken q (l.foldl State.consider s) := by
  induction l generalizing s with
  | nil => exact .inl h
  | cons r l ih =>
    rcases h.consider (own r List.mem_cons_self) with waits | taken
    · exact ih waits fun x hx => own x (List.mem_cons_of_mem r hx)
    · exact .inr (taken.walk l)

theorem Waiting.of_yields (h : Waiting q s) (y : Yields s t) : Waiting q t := by
  obtain ⟨record, mem⟩ := h
  exact ⟨by rwa [y.table], by rwa [y.queue]⟩

theorem Taken.of_yields (h : Taken q s) (y : Yields s t) : Taken q t := by
  obtain ⟨record, c, j, job, busy, same⟩ := h
  exact ⟨by rwa [y.table], c, j, (y.jobs c).trans job, y.busy c busy, same⟩

theorem mem_placeRequest {now : Beat} {x r : Request} {l : List Request} (h : x ∈ placeRequest now r l) : x = r ∨ x ∈ l := by
  induction l with
  | nil => simpa [placeRequest] using h
  | cons y l ih =>
    unfold placeRequest at h
    split at h
    · exact List.mem_cons.1 h
    · rcases List.mem_cons.1 h with rfl | h
      · exact .inr List.mem_cons_self
      · exact (ih h).imp_right (List.mem_cons_of_mem y)

/-- The order in which the queue is consulted is of its own requests. -/
theorem mem_queueOrder {x : Request} (h : x ∈ s.queueOrder) : x ∈ s.queue := by
  have sound : ∀ l : List Request, x ∈ l.foldr (placeRequest s.beat) [] → x ∈ l := by
    intro l
    induction l with
    | nil => exact id
    | cons y l ih =>
      intro h
      rcases mem_placeRequest h with rfl | h
      · exact List.mem_cons_self
      · exact List.mem_cons_of_mem y (ih h)
  exact sound s.queue h

theorem arbitrate_idle (h : s.lineState ≠ .run) : s.arbitrate = s := if_neg h

/-- An arbitration in RUN is a walk of the queue and a yield. -/
theorem arbitrate_run (h : s.lineState = .run) : Yields (s.queueOrder.foldl State.consider s) s.arbitrate := by
  unfold State.arbitrate
  rw [if_pos h]
  exact (yieldTest_yields _ _).trans (yieldTest_yields _ _)

/-- At an arbitration a request that waits goes on waiting, or in RUN is taken. -/
theorem Waiting.arbitrate (h : Waiting q s) (own : s.lineState = .run → ∀ r ∈ s.queue, r.slot = q.slot → r = q) :
    Waiting q s.arbitrate ∨ (s.lineState = .run ∧ Taken q s.arbitrate) := by
  by_cases run : s.lineState = .run
  · rcases h.walk s.queueOrder fun r mem => own run r (mem_queueOrder mem) with waits | taken
    · exact .inl (waits.of_yields (arbitrate_run run))
    · exact .inr ⟨run, taken.of_yields (arbitrate_run run)⟩
  · rw [arbitrate_idle run]
    exact .inl h

/-! ### The record meanwhile -/

section

variable {slot : Slot} {h₀ : Hanger} (launch : h₀.leg = 0)
include launch

theorem Stands.consider (h : Stands slot h₀ s) (r : Request) : Stands slot h₀ (s.consider r) := by
  rcases consider_cases s r with e | ⟨c, e, _, granted⟩
  · rwa [e]
  obtain ⟨⟨g, live, st, p, d, rfl⟩, marked⟩ := h
  have hoists := grant_hoists s c r e
  rw [granted]
  refine ⟨?_, hoists.marks _ _ marked⟩
  rcases hoists.table slot with kept | ⟨_, lifted⟩
  · exact ⟨_, kept.trans live, st, p, d, rfl⟩
  · exact ⟨_, lifted.trans (congrArg _ live), _, _, d, liftedHanger_of_launch _ _ launch⟩

theorem Stands.arbitrate (h : Stands slot h₀ s) : Stands slot h₀ s.arbitrate := by
  have walk : ∀ (l : List Request) (t : State), Stands slot h₀ t → Stands slot h₀ (l.foldl State.consider t) := by
    intro l
    induction l with
    | nil => exact fun _ => id
    | cons r l ih => exact fun t ht => ih _ (ht.consider launch r)
  by_cases run : s.lineState = .run
  · exact (walk _ _ h).of_same (arbitrate_run run).table (arbitrate_run run).marks
  · rwa [arbitrate_idle run]

end

end Sys2Proof.Machine.RecipeBanks
end

section
/-! The lodging of a request for a record that stands in a bay (R94 to R97), and the admission that lodges one (R41). -/

namespace Sys2Proof.Machine.RecipeBanks

/-! ### Bays -/

theorem setBay_bayAt (s : State) (e d : BayRef) (x : Bay) : (s.setBay e x).bayAt d = if d = e then x else s.bayAt d := by
  obtain ⟨st, b⟩ := e
  obtain ⟨st', b'⟩ := d
  simp only [State.bayAt, State.setBay, State.setStation_get, BayRef.mk.injEq]
  by_cases station : st' = st
  · subst station
    simp only [if_true, vector_get_set, true_and]
  · simp only [station, if_false, false_and]

theorem bayAt_congr {s t : State} (h : t.stations = s.stations) (d : BayRef) : t.bayAt d = s.bayAt d := by
  simp only [State.bayAt, h]

/-- A bay that becomes OCCUPIED keeps its deferred-disable flag (R10, R123). -/
theorem occupyBay_bayAt (s : State) (slot : Slot) (d : BayRef) :
    (s.occupyBay slot d).bayAt d = { s.bayAt d with state := .occupied slot } := by
  have bay : (s.setBay d { s.bayAt d with state := .occupied slot }).bayAt d = { s.bayAt d with state := .occupied slot } := by
    rw [setBay_bayAt, if_pos rfl]
  unfold State.occupyBay
  dsimp only
  split
  · exact bay
  · rw [State.bayAt, State.setStation_get, if_pos rfl]
    exact bay

theorem occupyBay_queue (s : State) (slot : Slot) (d : BayRef) : (s.occupyBay slot d).queue = s.queue := by
  unfold State.occupyBay
  dsimp only
  split <;> rfl

theorem occupyBay_channels (s : State) (slot : Slot) (d : BayRef) : (s.occupyBay slot d).channels = s.channels := by
  unfold State.occupyBay
  dsimp only
  split <;> rfl

theorem occupyBay_carriage (s : State) (slot : Slot) (d : BayRef) (c : CarriageId) :
    (s.occupyBay slot d).carriage c = s.carriage c := by
  unfold State.occupyBay
  dsimp only
  cases c <;> split <;> rfl

/-- The bay chosen at a lodging is EMPTY (R95). -/
theorem chooseBay_empty {s : State} {h : Hanger} {src : StationNo} {e : BayRef} (chosen : s.chooseBay h src = some e) :
    (s.bayAt e).state = .empty := by
  unfold State.chooseBay at chosen
  dsimp only at chosen
  split at chosen
  · cases chosen
  · next st _ =>
    obtain ⟨b, first, rfl⟩ := Option.map_eq_some_iff.1 chosen
    have free := List.find?_some first
    exact ((bayFree_iff _ b).1 free).2

/-- An arbitration moves no bay. -/
theorem arbitrate_stations (s : State) : s.arbitrate.stations = s.stations := by
  have moves : LineMove (fun _ _ => True) (fun x x' => x' = x) s s.arbitrate := s.arbitrate_moves fun _ _ _ => trivial
  ext i hi : 1
  exact moves.station_of (S := fun x x' => x' = x) (fun _ => Eq.refl _) (fun _ _ _ a b => Eq.trans b a) ⟨i, hi⟩

/-! ### The queue -/

theorem mem_insertRequest (q : Request) (l : List Request) : q ∈ insertRequest q l := by
  induction l with
  | nil => exact List.mem_cons_self
  | cons x l ih =>
    unfold insertRequest
    split
    · exact List.mem_cons_self
    · split
      · exact List.mem_cons_self
      · exact List.mem_cons_of_mem x ih

/-- In a queue in order of slots, a request put in is the only one of its slot (R93; log 26). -/
theorem insertRequest_own {q r : Request} {l : List Request} (sorted : l.Pairwise fun a b => a.slot < b.slot)
    (mem : r ∈ insertRequest q l) (same : r.slot = q.slot) : r = q := by
  induction l with
  | nil => simpa [insertRequest] using mem
  | cons x l ih =>
    obtain ⟨least, tail⟩ := List.pairwise_cons.1 sorted
    unfold insertRequest at mem
    split at mem
    · next before =>
      rcases List.mem_cons.1 mem with rfl | mem
      · rfl
      · rcases List.mem_cons.1 mem with rfl | mem
        · exact absurd same before.ne'
        · exact absurd same (before.trans (least r mem)).ne'
    · split at mem
      · next here =>
        rcases List.mem_cons.1 mem with rfl | mem
        · rfl
        · exact absurd (same.trans here) (least r mem).ne'
      · next apart =>
        rcases List.mem_cons.1 mem with rfl | mem
        · exact absurd same.symm apart
        · exact ih tail mem

/-! ### A lodging -/

/-- The state in which the arbiter finds a request lodged with its destination (R95). -/
def resolvedAt (s : State) (slot : Slot) (h : Hanger) (cls : RequestClass) (b : Beat) (src e : BayRef) : State :=
  { s.reserve slot h e with queue := insertRequest ⟨slot, cls, b, src, some e⟩ s.queue }

/-- The state in which a lodging leaves a request without a destination (R96, R97). -/
def pendingAt (s : State) (slot : Slot) (h : Hanger) (cls : RequestClass) (b : Beat) (src : BayRef) : State :=
  let t := { s with queue := insertRequest ⟨slot, cls, b, src, none⟩ s.queue }.mark .bayPending slot.val
  if s.leavesLastStep h then t.mark .unloadFull 0 else t

/-- A lodging reserves an EMPTY bay and is handed to the arbiter, or is left pending (R95, R96). -/
theorem lodge_cases {s : State} {slot : Slot} {h : Hanger} {src : BayRef} (live : s.hangers[slot] = some h)
    (place : h.position = some src) (cls : RequestClass) (b : Beat) :
    (∃ e, (s.bayAt e).state = .empty ∧ s.lodge slot cls b = (resolvedAt s slot h cls b src e).arbitrate) ∨
      s.lodge slot cls b = pendingAt s slot h cls b src := by
  have queue : ∀ e, (s.reserve slot h e).queue = s.queue := fun e => putHanger_queue _ _ _
  unfold State.lodge
  rw [live]
  dsimp only
  rw [place]
  dsimp only
  split
  · next e chosen =>
    refine .inl ⟨e, chooseBay_empty chosen, ?_⟩
    rw [resolvedAt, ← queue e]
  · exact .inr rfl

section

variable {s : State} {slot : Slot} {h : Hanger} {cls : RequestClass} {b : Beat} {src : BayRef}

theorem resolvedAt_lineState (e : BayRef) : (resolvedAt s slot h cls b src e).lineState = s.lineState :=
  congrArg Settings.lineState (State.putHanger_settings (s.setBay e _) slot _)

theorem resolvedAt_get (e : BayRef) (i : Slot) : (resolvedAt s slot h cls b src e).hangers[i] =
    if i = slot then some { h with destination := some e } else s.hangers[i] :=
  State.putHanger_get _ slot i _

theorem resolvedAt_bayAt (e d : BayRef) : (resolvedAt s slot h cls b src e).bayAt d =
    if d = e then { s.bayAt e with state := .reserved slot } else s.bayAt d := by
  rw [← setBay_bayAt]
  exact bayAt_congr (State.putHanger_stations _ slot _) d

theorem pendingAt_parts : (pendingAt s slot h cls b src).hangers = s.hangers ∧ (pendingAt s slot h cls b src).stations = s.stations ∧
    (pendingAt s slot h cls b src).queue = insertRequest ⟨slot, cls, b, src, none⟩ s.queue ∧
    (pendingAt s slot h cls b src).channels = s.channels ∧ ∀ c, (pendingAt s slot h cls b src).carriage c = s.carriage c := by
  unfold pendingAt
  dsimp only
  split <;> exact ⟨rfl, rfl, rfl, rfl, fun c => by cases c <;> rfl⟩

variable (live : s.hangers[slot] = some h) (place : h.position = some src)
include live place

/-- A lodging leaves the record fresh and its mark set. -/
theorem lodge_stands (launch : h.leg = 0) (marked : s.hasMark .recordChanged slot.val = true) :
    Stands slot h (s.lodge slot cls b) := by
  rcases lodge_cases live place cls b with ⟨e, _, resolved⟩ | pending
  · rw [resolved]
    refine Stands.arbitrate launch ⟨⟨_, ?_, h.state, h.position, some e, rfl⟩, putHanger_hasMark slot _ marked⟩
    rw [resolvedAt_get, if_pos rfl]
  · have stands : Stands slot h s := ⟨⟨h, live, h.state, h.position, h.destination, rfl⟩, marked⟩
    rw [pending]
    unfold pendingAt
    dsimp only
    split
    · exact ((stands.of_same rfl rfl).mark _ _).mark _ _
    · exact (stands.of_same rfl rfl).mark _ _

/-- A lodging touches no bay but one that was EMPTY. -/
theorem lodge_bayAt {d : BayRef} (used : (s.bayAt d).state ≠ .empty) : (s.lodge slot cls b).bayAt d = s.bayAt d := by
  rcases lodge_cases live place cls b with ⟨e, empty, resolved⟩ | pending
  · have apart : d ≠ e := fun same => used (same ▸ empty)
    rw [resolved, bayAt_congr (arbitrate_stations _), resolvedAt_bayAt, if_neg apart]
  · rw [pending]
    exact bayAt_congr pendingAt_parts.2.1 d

/-- The request of a lodging waits in the queue, or in RUN is a carriage's job at once (R113, R119). -/
theorem lodge_placed (state : h.state = .admitted) (queued : s.lineState = .run → s.queue.Pairwise fun a b => a.slot < b.slot) :
    ∃ dest, Waiting ⟨slot, cls, b, src, dest⟩ (s.lodge slot cls b) ∨
      (s.lineState = .run ∧ Taken ⟨slot, cls, b, src, dest⟩ (s.lodge slot cls b)) := by
  rcases lodge_cases live place cls b with ⟨e, _, resolved⟩ | pending
  · have waits : Waiting ⟨slot, cls, b, src, some e⟩ (resolvedAt s slot h cls b src e) := by
      refine ⟨⟨{ h with destination := some e }, ?_, state, place⟩, mem_insertRequest _ _⟩
      rw [resolvedAt_get, if_pos rfl]
    refine ⟨some e, ?_⟩
    rw [resolved, ← resolvedAt_lineState (h := h) (cls := cls) (b := b) (src := src) e]
    refine waits.arbitrate fun run r mem same => insertRequest_own (queued ?_) mem same
    rwa [resolvedAt_lineState] at run
  · obtain ⟨table, _, queue, _, _⟩ := pendingAt_parts (s := s) (slot := slot) (h := h) (cls := cls) (b := b) (src := src)
    refine ⟨none, .inl ⟨⟨h, ?_, state, place⟩, ?_⟩⟩
    · rw [pending, table]
      exact live
    · rw [pending, queue]
      exact mem_insertRequest _ _

/-- Outside RUN a lodging touches no channel, no carriage and no other record (R113). -/
theorem lodge_outside (idle : s.lineState ≠ .run) : (s.lodge slot cls b).channels = s.channels ∧
    (∀ c, (s.lodge slot cls b).carriage c = s.carriage c) ∧
    ∀ i : Slot, i ≠ slot → (s.lodge slot cls b).hangers[i] = s.hangers[i] := by
  rcases lodge_cases live place cls b with ⟨e, _, resolved⟩ | pending
  · rw [resolved, arbitrate_idle (by rwa [resolvedAt_lineState])]
    refine ⟨State.putHanger_channels _ slot _, fun c => ?_, fun i apart => ?_⟩
    · exact (by cases c <;> rfl : _ = (s.reserve slot h e).carriage c).trans
        ((State.putHanger_carriage _ slot _ c).trans (by cases c <;> rfl))
    · rw [resolvedAt_get, if_neg apart]
  · obtain ⟨table, _, _, channels, carriages⟩ := pendingAt_parts (s := s) (slot := slot) (h := h) (cls := cls) (b := b) (src := src)
    rw [pending]
    exact ⟨channels, carriages, fun i _ => by rw [table]⟩

end

/-! ### A record admitted in its bay -/

section

variable (s : State) (slot : Slot) (h : Hanger) (d : BayRef)

theorem enteredAt_get (i : Slot) : (enteredAt s slot h d).hangers[i] = if i = slot then some h else s.hangers[i] := by
  rw [enteredAt_hangers]
  exact vector_get_set s.hangers slot i (some h)

theorem enteredAt_bayAt : (enteredAt s slot h d).bayAt d = { s.bayAt d with state := .occupied slot } := by
  rw [← occupyBay_bayAt]
  exact bayAt_congr ((s.occupyBay slot d).putHanger_stations slot h) d

theorem enteredAt_queue : (enteredAt s slot h d).queue = s.queue :=
  (putHanger_queue (s.occupyBay slot d) slot h).trans (occupyBay_queue s slot d)

theorem enteredAt_channels : (enteredAt s slot h d).channels = s.channels :=
  ((s.occupyBay slot d).putHanger_channels slot h).trans (occupyBay_channels s slot d)

theorem enteredAt_carriage (c : CarriageId) : (enteredAt s slot h d).carriage c = s.carriage c :=
  (by cases c <;> rfl : _ = ((s.occupyBay slot d).putHanger slot h).carriage c).trans
    (((s.occupyBay slot d).putHanger_carriage slot h c).trans (occupyBay_carriage s slot d c))

theorem enteredAt_hasMark (vacant : s.hangers[slot] = none) : (enteredAt s slot h d).hasMark .recordChanged slot.val = true := by
  rw [← s.occupyBay_hangers slot d] at vacant
  exact putHanger_vacant_hasMark h vacant

end

end Sys2Proof.Machine.RecipeBanks
end

section
/-! ADMIT creates the record (R25, R35, R39 to R41). -/

namespace Sys2Proof.Machine.RecipeBanks

section

variable (s : State) (slot : Slot) (tag : Nat) (bank : BankNo) (push : Int) (area : Nat) (d : BayRef)

/-- The state after an admission that is accepted (R41). -/
def admittedAt : State := s.enterHanger slot (admitted tag bank push area d s.beat) d

theorem entered_live : (enteredAt s slot (admitted tag bank push area d s.beat) d).hangers[slot] =
    some (admitted tag bank push area d s.beat) := by
  rw [enteredAt_get, if_pos rfl]

theorem entered_lineState : (enteredAt s slot (admitted tag bank push area d s.beat) d).lineState = s.lineState :=
  congrArg Settings.lineState (enteredAt_settings s slot _ d)

theorem admittedAt_settings : (admittedAt s slot tag bank push area d).settings = { s.settings with
    banks := s.banks.set bank.val { s.banks[bank] with useCount := s.banks[bank].useCount + 1 }
    tagIndex := enterTag tag slot s.tagIndex } := by
  have moves := (enteredAt s slot (admitted tag bank push area d s.beat) d).lodge_moves sameEntry_of_stay anyStation_of slot .launch s.beat
  exact moves.settings.trans (enteredAt_settings s slot _ d)

theorem admittedAt_bayAt : (admittedAt s slot tag bank push area d).bayAt d = { s.bayAt d with state := .occupied slot } := by
  have bay := enteredAt_bayAt s slot (admitted tag bank push area d s.beat) d
  rw [admittedAt, enterHanger_eq, lodge_bayAt (entered_live s slot tag bank push area d) rfl, bay]
  rw [bay]
  exact nofun

theorem admittedAt_stands (vacant : s.hangers[slot] = none) :
    Stands slot (admitted tag bank push area d s.beat) (admittedAt s slot tag bank push area d) :=
  lodge_stands (entered_live s slot tag bank push area d) rfl rfl (enteredAt_hasMark s slot _ d vacant)

/-- The LAUNCH request of an admission waits, or in RUN is a carriage's job at once (R41, R113, R119). -/
theorem admittedAt_placed (queued : s.lineState = .paused ∨ s.queueInRange) :
    ∃ dest, Waiting ⟨slot, .launch, s.beat, d, dest⟩ (admittedAt s slot tag bank push area d) ∨
      (s.lineState = .run ∧ Taken ⟨slot, .launch, s.beat, d, dest⟩ (admittedAt s slot tag bank push area d)) := by
  have queue : (enteredAt s slot (admitted tag bank push area d s.beat) d).lineState = .run →
      (enteredAt s slot (admitted tag bank push area d s.beat) d).queue.Pairwise fun a b => a.slot < b.slot := by
    rw [entered_lineState, enteredAt_queue]
    rcases queued with paused | inRange
    · rw [paused]
      exact nofun
    · exact fun _ => inRange.1
  have placed := lodge_placed (cls := .launch) (b := s.beat) (entered_live s slot tag bank push area d) rfl rfl queue
  rwa [entered_lineState] at placed

theorem admittedAt_paused (paused : s.lineState = .paused) : (admittedAt s slot tag bank push area d).channels = s.channels ∧
    (∀ c, (admittedAt s slot tag bank push area d).carriage c = s.carriage c) ∧
    ∀ i : Slot, i ≠ slot → (admittedAt s slot tag bank push area d).hangers[i] = s.hangers[i] := by
  have idle : (enteredAt s slot (admitted tag bank push area d s.beat) d).lineState ≠ .run := by
    rw [entered_lineState, paused]
    exact nofun
  obtain ⟨channels, carriages, others⟩ := lodge_outside (cls := .launch) (b := s.beat)
    (entered_live s slot tag bank push area d) rfl idle
  refine ⟨channels.trans (enteredAt_channels s slot _ d), fun c => (carriages c).trans (enteredAt_carriage s slot _ d c), ?_⟩
  intro i apart
  exact (others i apart).trans ((enteredAt_get s slot _ d i).trans (if_neg apart))

/-- The record an admission leaves, and where its request is. -/
theorem admittedAt_record (vacant : s.hangers[slot] = none) : ∃ h, (admittedAt s slot tag bank push area d).hangers[slot] = some h ∧
    h.tag = tag ∧ h.bank = bank ∧ h.push = push ∧ h.area = area ∧ h.leg = 0 ∧ h.held = false ∧ h.stepStart = s.beat ∧
    h.overstayNoted = false ∧ h.dose = 0 ∧ h.fraction = 0 ∧ h.target = none ∧ h.overshoot = none ∧ h.provisional = false ∧
    h.faultReason = none ∧
    (s.lineState = .paused ∨ s.queueInRange → (h.state = .admitted ∧ h.position = some d ∧
        ∃ q ∈ (admittedAt s slot tag bank push area d).queue, q.slot = slot ∧ q.cls = .launch ∧ q.deadline = s.beat ∧
          q.source = d) ∨
      (s.lineState = .run ∧ (h.state = .admitted ∧ h.position = some d ∨ h.state = .inTransit ∧ h.position = none) ∧
        ∃ c j, ((admittedAt s slot tag bank push area d).carriage c).job = some j ∧ j.slot = slot ∧ j.cls = .launch ∧
          j.deadline = s.beat ∧ j.source = d)) := by
  obtain ⟨⟨h, live, st, p, e, fresh⟩, _⟩ := admittedAt_stands s slot tag bank push area d vacant
  refine ⟨h, live, ?_⟩
  subst fresh
  refine ⟨rfl, rfl, rfl, rfl, rfl, rfl, rfl, rfl, rfl, rfl, rfl, rfl, rfl, rfl, fun queued => ?_⟩
  obtain ⟨dest, waiting | ⟨run, taken⟩⟩ := admittedAt_placed s slot tag bank push area d queued
  · obtain ⟨⟨g, live', state, place⟩, mem⟩ := waiting
    cases live.symm.trans live'
    exact .inl ⟨state, place, _, mem, rfl, rfl, rfl, rfl⟩
  · obtain ⟨⟨g, live', place⟩, c, j, job, _, same⟩ := taken
    cases live.symm.trans live'
    exact .inr ⟨run, place, c, j, job, same⟩

end

/-- Settles O47: the tests of ADMIT in their order on the state of the take; where all pass, the record enters the table and its
LAUNCH request is lodged. -/
theorem admissionCreatesTheRecord : Obligations.AdmissionCreatesTheRecord := by
  unfold Obligations.AdmissionCreatesTheRecord
  intro m t1 t0 p1 p0 a1 a0 slot d p s hears short t tag push area bank steps frame running served unloads loadBay lowest refuses
  have six : frame.length ≤ 64 := by simp [frame]
  have refused : ∀ {r n}, admitBody m frame t = .refused r n → refuses r n := request_refused hears six
  have served_iff : ∀ k, served k ↔ t.stepServed k = true := by
    intro k
    cases pin : k.pinned with
    | some st => rw [stepServed_pinned pin]; simp only [served, pin]
    | none => rw [stepServed_free pin]; simp only [served, pin]
  refine ⟨fun h => request_refused hears short (admitBody_form h), fun h => refused (admitBody_tag h), fun low high => ?_⟩
  have inRange : ¬(num16 t1 t0 = 0 ∨ 4095 < num16 t1 t0) := not_or.2 ⟨Nat.ne_of_gt low, Nat.not_lt.2 high⟩
  refine ⟨fun h => refused (admitBody_config inRange h), fun h => refused (admitBody_stopped inRange h), fun runs full => ?_,
    fun runs ⟨vacant, before⟩ => ?_⟩
  · exact refused (admitBody_full inRange runs (vacantSlot_of_full full))
  have body : admitBody m frame t = admitReply bank tag (clampPush push) (clampArea area) slot t :=
    admitBody_vacant inRange runs (vacantSlot_of_lowest vacant before)
  refine ⟨fun other dup => refused (body.trans (admitReply_duplicate dup)), fun fresh => ⟨fun empty => ?_, ?_, fun full all => ?_⟩⟩
  · exact refused (body.trans (admitReply_empty fresh empty))
  · intro n k here unserved first
    have full : steps ≠ [] := fun e => by simp [e] at here
    have leg := failedLeg_step 1 n steps here (Bool.eq_false_iff.2 fun e => unserved ((served_iff k).2 e))
      fun i x hi hx => (served_iff x).1 (first i x hi hx)
    rw [Nat.add_comm] at leg
    exact refused (body.trans (admitReply_noStation fresh full leg))
  have legs := failedLeg_served 1 steps fun k hk => (served_iff k).1 (all k hk)
  refine ⟨fun closed => ?_, fun opens none' => ?_, fun opens load least => ?_⟩
  · rw [if_neg fun e => closed ((hasClass_iff t .unload).1 e), Nat.add_comm] at legs
    exact refused (body.trans (admitReply_noStation fresh full legs))
  · rw [if_pos ((hasClass_iff t .unload).2 opens)] at legs
    exact refused (body.trans (admitReply_noLoadBay fresh full legs (loadBay_of_none none')))
  · rw [if_pos ((hasClass_iff t .unload).2 opens)] at legs
    refine ⟨admittedAt t slot tag bank (clampPush push) (clampArea area) d, ?_, admittedAt_settings .., admittedAt_bayAt .., ?_, ?_, ?_⟩
    · exact request_accepted hears six (body.trans (admitReply_accepted fresh full legs (loadBay_of_least load least)))
    · exact (admittedAt_stands t slot tag bank _ _ d vacant).2
    · exact admittedAt_record t slot tag bank _ _ d vacant
    · exact admittedAt_paused t slot tag bank _ _ d

end Sys2Proof.Machine.RecipeBanks
end

section
/-! The order of the rail (R111): why the moves by themselves are not kept. The agreement of the moves says nothing of the order of a
carriage without a job; a free carriage with a PARK order outstanding, which `Carriage.spanHolds` alone excludes, takes a job at a
grant where it stands and keeps the order (R118, R119), so that it then carries a job while it is sent to its park. -/

namespace Sys2Proof.Machine.HangerTable

/-! ### A carriage that parks and takes a job -/

/-- A film in development that is DUE in bay 0 of station 2, on its way to station 3. -/
def dueFilm : Hanger where
  tag := 1
  state := .due
  held := false
  bank := 0
  push := 0
  area := 0
  leg := 1
  position := some ⟨2, 0⟩
  destination := some ⟨3, 0⟩
  stepStart := 0
  overstayNoted := false
  dose := 0
  fraction := 0
  target := some 100
  overshoot := none
  provisional := false
  faultReason := none

/-- The request of the film, for a developer bath. -/
def dueRequest : Request := ⟨0, .exactDose, 0, ⟨2, 0⟩, some ⟨3, 0⟩⟩

/-- Carriage 1 stands free over the film with a PARK order outstanding, the film's request waits in the queue of the PAUSED line, and the
host asks to RESUME. -/
def parkOrdered : State := { State.reset with
  lineState := .paused
  hangers := State.reset.hangers.set 0 (some dueFilm)
  tagIndex := [(1, 0)]
  banks := State.reset.banks.set 0 { useCount := 1 }
  queue := [dueRequest]
  carriage1 := { state := .idle, position := some 2, order := some ⟨.park, 0⟩ }
  pending := [.resume 0 []] }

theorem parkOrdered_hangers (slot : Slot) : parkOrdered.hangers[slot] = if slot = 0 then some dueFilm else none := by
  revert slot
  decide +kernel

theorem parkOrdered_live {slot : Slot} {h : Hanger} (live : parkOrdered.hangers[slot] = some h) : slot = 0 ∧ h = dueFilm := by
  rw [parkOrdered_hangers] at live
  split at live
  · next same => exact ⟨same, (Option.some.inj live).symm⟩
  · cases live

theorem parkOrdered_idle (c : CarriageId) : (parkOrdered.carriage c).job = none := by cases c <;> rfl

theorem parkOrdered_tableAgrees : parkOrdered.tableAgrees := by
  refine ⟨List.pairwise_singleton _ _, fun tag slot => ?_, ?_⟩
  · rw [parkOrdered_hangers]
    show (tag, slot) ∈ [(1, 0)] ↔ _
    by_cases same : slot = 0
    · simp [same, dueFilm, eq_comm]
    · simp [same]
  · decide +kernel

theorem parkOrdered_queue : parkOrdered.queue = [dueRequest] := rfl

theorem parkOrdered_movesOfRecords : parkOrdered.movesOfRecords := by
  have noJob : ∀ c j, (parkOrdered.carriage c).job ≠ some j := fun c j e => by simp [parkOrdered_idle] at e
  unfold State.movesOfRecords
  rw [parkOrdered_queue]
  refine ⟨List.pairwise_singleton _ _, fun q mem => ?_, fun j _ e => absurd e (noJob .one j), fun c j e => absurd e (noJob c j),
    fun slot h live _ => ?_⟩
  · cases List.mem_singleton.1 mem
    exact ⟨fun c j e => absurd e (noJob c j), dueFilm, parkOrdered_hangers 0, rfl, .inr rfl⟩
  · obtain ⟨rfl, _⟩ := parkOrdered_live live
    exact .inl ⟨dueRequest, List.mem_singleton_self _, rfl⟩

theorem parkOrdered_movesAgree : parkOrdered.movesAgree := by
  refine ⟨parkOrdered_movesOfRecords, nofun, nofun, fun slot h live held => ?_, nofun⟩
  obtain ⟨_, rfl⟩ := parkOrdered_live live
  cases held

/-- At the RESUME the film is granted to carriage 1, which awaits its dose with the PARK order outstanding as before. -/
theorem parkOrdered_step : ∃ t, step parkOrdered = .next t ∧ t.carriage1.order = some ⟨.park, 0⟩ ∧
    t.carriage1.job = some ⟨0, .exactDose, 0, ⟨2, 0⟩, ⟨3, 0⟩, .awaitLift, none⟩ :=
  ⟨_, rfl, by decide +kernel, by decide +kernel⟩

/-- Refutes O36 in its first part: the moves of `parkOrdered` agree, and those of the next state do not. -/
theorem not_stepsKeepTheRailInOrder : ¬Obligations.StepsKeepTheRailInOrder := by
  unfold Obligations.StepsKeepTheRailInOrder
  rintro ⟨keeps, _⟩
  obtain ⟨t, stepped, order, job⟩ := parkOrdered_step
  obtain ⟨_, agrees, _⟩ := keeps parkOrdered t parkOrdered_tableAgrees parkOrdered_movesAgree stepped
  obtain ⟨_, _, notParking⟩ := agrees _ job
  exact notParking (.inl ⟨0, order⟩)

end Sys2Proof.Machine.HangerTable
end

section
/-! What the arbiter and the carriages at their bays do to the records, the marks and the queue (R50, R74 to R76, R113, R114, R118 to R120),
said once, for the commands that lodge requests, amend records or hear reports. -/

namespace Sys2Proof.Machine.HangerTable

open Sys2Proof.Machine.RecipeBanks

/-! ### Marks -/

theorem hasMark_mark_iff (s : State) (k l : Kind) (n i : Nat) :
    (s.mark k n).hasMark l i = true ↔ s.hasMark l i = true ∨ (l = k ∧ i = n) := by
  rw [hasMark_iff, hasMark_iff, mark_marked]
  split
  · next same => subst same; simp [mem_insertSubject, or_comm]
  · next apart => simp [apart]

theorem hasMark_mark_apart (s : State) {k l : Kind} {n i : Nat} (apart : l ≠ k ∨ i ≠ n) :
    (s.mark k n).hasMark l i = s.hasMark l i := by
  rw [Bool.eq_iff_iff, hasMark_mark_iff]
  exact or_iff_left fun ⟨kind, subject⟩ => apart.elim (· kind) (· subject)

/-- RECORD_CHANGED has nothing to say of records alike in state, leg, held flag and position (R37). -/
theorem recordChanges_eq_false {g h : Hanger} : recordChanges g h = false ↔
    g.state = h.state ∧ g.leg = h.leg ∧ g.held = h.held ∧ g.position = h.position := by
  simp [recordChanges, and_assoc]

theorem recordChanges_trans {a b c : Hanger} (ab : recordChanges a b = false) (bc : recordChanges b c = false) :
    recordChanges a c = false := by
  rw [recordChanges_eq_false] at *
  exact ⟨ab.1.trans bc.1, ab.2.1.trans bc.2.1, ab.2.2.1.trans bc.2.2.1, ab.2.2.2.trans bc.2.2.2⟩

theorem recordChanges_self (h : Hanger) : recordChanges h h = false := recordChanges_eq_false.2 ⟨rfl, rfl, rfl, rfl⟩

theorem hasMark_congr {s t : State} (h : t.marks = s.marks) (k : Kind) (n : Nat) : t.hasMark k n = s.hasMark k n := by
  simp only [State.hasMark, State.marked, h]

/-- A write of a record sets no mark but RECORD_CHANGED on its slot (R37). -/
theorem putHanger_hasMark_apart (s : State) (slot : Slot) (h : Hanger) {k : Kind} {n : Nat}
    (apart : k ≠ .recordChanged ∨ n ≠ slot.val) : (s.putHanger slot h).hasMark k n = s.hasMark k n := by
  unfold State.putHanger
  dsimp only
  split
  · split
    · exact hasMark_mark_apart _ apart
    · rfl
  · exact hasMark_mark_apart _ apart

/-- A change of state, leg, held flag or position is marked where it is written (R37). -/
theorem putHanger_hasMark_changed {s : State} {slot : Slot} {old h : Hanger} (live : s.hangers[slot] = some old)
    (changes : recordChanges old h = true) : (s.putHanger slot h).hasMark .recordChanged slot.val = true := by
  simp only [State.putHanger, live, changes, if_true]
  exact hasMark_mark_self _ _ _

/-- A record written without such a change sets no mark. -/
theorem putHanger_of_unchanged {s : State} {slot : Slot} {old h : Hanger} (live : s.hangers[slot] = some old)
    (same : recordChanges old h = false) : s.putHanger slot h = { s with hangers := s.hangers.set slot.val (some h) } := by
  simp only [State.putHanger, live, same, Bool.false_eq_true, if_false]
  rfl

/-! ### Legs, lifts and settings -/

/-- The step of a leg rests on the leg, the bank and the recipes (R22). -/
theorem legStep_congr {s t : State} {g h : Hanger} (banks : t.banks = s.banks) (leg : g.leg = h.leg) (bank : g.bank = h.bank) :
    t.legStep g = s.legStep h := by
  simp only [State.legStep, State.stepsOf, banks, leg, bank]

theorem legKind_congr {s t : State} {g h : Hanger} (banks : t.banks = s.banks) (leg : g.leg = h.leg) (bank : g.bank = h.bank) :
    t.legKind g = s.legKind h := by
  rw [State.legKind, State.legKind, legStep_congr banks leg bank]

/-- A record lifted twice is as if lifted once: the overshoot is measured of the same dose and target (R75). -/
theorem liftedHanger_twice (s : State) (h : Hanger) : s.liftedHanger (s.liftedHanger h) = s.liftedHanger h := by
  have kind : s.legKind (s.liftedHanger h) = s.legKind h := legKind_congr rfl rfl rfl
  rw [State.liftedHanger, kind]
  unfold State.liftedHanger
  split <;> rfl

theorem overshoots_congr {s t : State} {g h : Hanger} (settings : t.settings = s.settings) (leg : g.leg = h.leg)
    (bank : g.bank = h.bank) (dose : g.dose = h.dose) (target : g.target = h.target) : t.overshoots g = s.overshoots h := by
  have params : t.params = s.params := congrArg Settings.params settings
  simp only [State.overshoots, legKind_congr (congrArg Settings.banks settings) leg bank, dose, target, params]

theorem liftedHanger_of_settings {s t : State} (settings : t.settings = s.settings) (h : Hanger) :
    t.liftedHanger h = s.liftedHanger h :=
  congrFun (liftedHanger_congr (congrArg Settings.banks settings)) h

/-! ### Hauls -/

/-- What carriages do that take up and carry out the moves of some slots: the settings stand, no request is lodged, and a record is left as it
is or lifted, with OVERSHOOT set where the lift measures it, and nothing of it marked where its slot is not one of those. -/
structure Hauls (slots : Slot → Prop) (s t : State) : Prop where
  settings : t.settings = s.settings
  queue : ∀ q ∈ t.queue, q ∈ s.queue
  sent : ∀ o ∈ s.sent, o ∈ t.sent
  table : ∀ i : Slot, t.hangers[i] = s.hangers[i] ∨ t.hangers[i] = (s.hangers[i]).map s.liftedHanger
  marks : ∀ k n, s.hasMark k n = true → t.hasMark k n = true
  spared : ∀ i : Slot, ¬slots i → t.hangers[i] = s.hangers[i] ∧ ∀ k, t.hasMark k i.val = s.hasMark k i.val
  overshoot : ∀ i : Slot, t.hasMark .overshoot i.val = true →
    s.hasMark .overshoot i.val = true ∨ ∃ h, s.hangers[i] = some h ∧ s.overshoots h = true
  noted : ∀ (i : Slot) (h h' : Hanger), s.hangers[i] = some h → t.hangers[i] = some h' → recordChanges h h' = true →
    t.hasMark .recordChanged i.val = true

section

variable {slots : Slot → Prop} {s t u : State}

/-- Writes of carriages, orders and channels, and requests that leave the queue, are of this kind. -/
theorem Hauls.of_same (settings : t.settings = s.settings) (queue : ∀ q ∈ t.queue, q ∈ s.queue) (sent : ∀ o ∈ s.sent, o ∈ t.sent)
    (table : t.hangers = s.hangers) (marks : t.marks = s.marks) : Hauls slots s t where
  settings := settings
  queue := queue
  sent := sent
  table i := .inl (by rw [table])
  marks k n h := by rwa [hasMark_congr marks]
  spared i _ := ⟨by rw [table], fun k => hasMark_congr marks k _⟩
  overshoot i h := .inl (by rwa [hasMark_congr marks] at h)
  noted i h h' live live' changes := by
    rw [table, live] at live'
    cases live'
    rw [recordChanges_self] at changes
    cases changes

theorem Hauls.refl (s : State) : Hauls slots s s := .of_same rfl (fun _ => id) (fun _ => id) rfl rfl

/-- A record that hauls leave of another, field by field: only what a lift writes may differ. -/
theorem Hauls.record (m : Hauls slots s t) {i : Slot} {h : Hanger} (live : s.hangers[i] = some h) :
    t.hangers[i] = some h ∨ t.hangers[i] = some (s.liftedHanger h) :=
  (m.table i).imp (·.trans live) (·.trans (congrArg _ live))

/-- A live record comes of one that a haul found. -/
theorem Hauls.record_of (m : Hauls slots s t) {i : Slot} {g : Hanger} (live : t.hangers[i] = some g) :
    ∃ h, s.hangers[i] = some h ∧ (g = h ∨ g = s.liftedHanger h) := by
  rcases m.table i with kept | lifted
  · exact ⟨g, kept.symm.trans live, .inl rfl⟩
  · obtain ⟨h, found, rfl⟩ := Option.map_eq_some_iff.1 (lifted.symm.trans live)
    exact ⟨h, found, .inr rfl⟩

theorem Hauls.trans (a : Hauls slots s t) (b : Hauls slots t u) : Hauls slots s u where
  settings := b.settings.trans a.settings
  queue q mem := a.queue q (b.queue q mem)
  sent o mem := b.sent o (a.sent o mem)
  table i := by
    have lifted : t.liftedHanger = s.liftedHanger := liftedHanger_congr (congrArg Settings.banks a.settings)
    have twice : s.liftedHanger ∘ s.liftedHanger = s.liftedHanger := funext (liftedHanger_twice s)
    rcases a.table i with a | a <;> rcases b.table i with b | b <;> simp [a, b, lifted, twice]
  marks k n h := b.marks k n (a.marks k n h)
  spared i out := by
    obtain ⟨a, a'⟩ := a.spared i out
    obtain ⟨b, b'⟩ := b.spared i out
    exact ⟨b.trans a, fun k => (b' k).trans (a' k)⟩
  overshoot i h := by
    rcases b.overshoot i h with marked | ⟨g, live, above⟩
    · exact a.overshoot i marked
    · obtain ⟨h, found, same⟩ := a.record_of live
      have measured : t.overshoots g = s.overshoots h := by
        rcases same with rfl | rfl <;> exact overshoots_congr a.settings rfl rfl rfl rfl
      exact .inr ⟨h, found, measured ▸ above⟩
  noted i h h' live live' changes := by
    obtain ⟨g, mid, _⟩ := b.record_of live'
    cases first : recordChanges h g with
    | true => exact b.marks _ _ (a.noted i h g live mid first)
    | false =>
      refine b.noted i g h' mid live' (Bool.eq_true_of_not_eq_false fun second => ?_)
      rw [recordChanges_trans first second] at changes
      cases changes

theorem Hauls.mono {more : Slot → Prop} (m : Hauls slots s t) (sub : ∀ i, slots i → more i) : Hauls more s t :=
  { m with spared := fun i out => m.spared i fun h => out (sub i h) }

theorem liftRecord_hauls (s : State) (slot : Slot) : Hauls (· = slot) s (s.liftRecord slot) where
  settings := (s.liftRecord_moves (R := fun _ _ => True) (S := fun _ _ => True) (fun _ _ _ => trivial) slot).settings
  queue q mem := by rwa [liftRecord_queue] at mem
  sent o mem := by
    unfold State.liftRecord State.putHanger
    dsimp only
    repeat' split
    all_goals exact mem
  table i := by
    rw [liftRecord_get]
    split
    · next same => subst same; exact .inr rfl
    · exact .inl rfl
  marks k n := liftRecord_hasMark slot
  spared i out := by
    refine ⟨by rw [liftRecord_get, if_neg out], fun k => ?_⟩
    have other : i.val ≠ slot.val := fun e => out (Fin.ext e)
    unfold State.liftRecord
    dsimp only
    split
    · rfl
    · split
      · exact (hasMark_mark_apart _ (.inr other)).trans (putHanger_hasMark_apart s slot _ (.inr other))
      · exact putHanger_hasMark_apart s slot _ (.inr other)
  overshoot i h := by
    unfold State.liftRecord at h
    dsimp only at h
    split at h
    · exact .inl h
    · next g live =>
      split at h
      · next above =>
        rw [hasMark_mark_iff, putHanger_hasMark_apart s slot _ (.inl (by decide))] at h
        refine h.imp_right fun ⟨_, same⟩ => ?_
        cases Fin.ext same
        exact ⟨g, live, above⟩
      · rw [putHanger_hasMark_apart s slot _ (.inl (by decide))] at h
        exact .inl h
  noted i h h' live live' changes := by
    rw [liftRecord_get] at live'
    split at live'
    · next same =>
      subst same
      rw [live] at live'
      cases live'
      simp only [State.liftRecord, live]
      split
      · exact hasMark_mark _ _ (putHanger_hasMark_changed live changes)
      · exact putHanger_hasMark_changed live changes
    · rw [live] at live'
      cases live'
      rw [recordChanges_self] at changes
      cases changes

theorem setCarriage_hauls (s : State) (c : CarriageId) (x : Carriage) : Hauls slots s (s.setCarriage c x) :=
  .of_same (by simp) (by simp) (by simp) (by simp) (by simp)

theorem sendOrder_hauls (s : State) (c : CarriageId) (o : Order) : Hauls slots s (s.sendOrder c o) :=
  .of_same (by simp) (by simp) (by simp +contextual) (by simp) (by simp)

theorem advance_hauls (s : State) (c : CarriageId) (x : CarriageState) : Hauls slots s (s.advance c x) := setCarriage_hauls s c _

theorem silenceAuto_hauls (s : State) (ch : ChannelNo) : Hauls slots s (s.silenceAuto ch) := by
  unfold State.silenceAuto
  split
  · exact .of_same rfl (fun _ => id) (fun _ => id) rfl rfl
  · exact .refl s

/-- A LIFT order lifts the record of the job (R120). -/
theorem liftOrder_hauls {s : State} {c : CarriageId} {j : Job} (job : (s.carriage c).job = some j) :
    Hauls (· = j.slot) s (s.liftOrder c) := by
  simp only [State.liftOrder, job]
  exact (((advance_hauls s c _).trans (sendOrder_hauls _ c _)).trans (liftRecord_hauls _ _)).trans (silenceAuto_hauls _ _)

theorem liftOrAwait_hauls {s : State} {c : CarriageId} {j : Job} (job : (s.carriage c).job = some j) :
    Hauls (· = j.slot) s (s.liftOrAwait c) := by
  simp only [State.liftOrAwait, job]
  split
  · exact advance_hauls s c _
  · exact liftOrder_hauls job

theorem grant_hauls (s : State) (c : CarriageId) (r : Request) (d : BayRef) : Hauls (· = r.slot) s (s.grant c r d) := by
  have leaves : Hauls (· = r.slot) s (withoutSlot r.slot s) :=
    .of_same rfl (fun q mem => (List.mem_filter.1 mem).1) (fun _ => id) rfl rfl
  unfold State.grant
  dsimp only
  split
  · refine (leaves.trans (setCarriage_hauls _ c _)).trans (liftOrAwait_hauls (j := grantedJob r d) ?_)
    rw [State.setCarriage_same]
    rfl
  · exact (leaves.trans (setCarriage_hauls _ c _)).trans (sendOrder_hauls _ c _)

theorem consider_hauls (s : State) (r : Request) : Hauls (· = r.slot) s (s.consider r) := by
  rcases consider_cases s r with e | ⟨c, d, _, granted⟩
  · rw [e]
    exact .refl s
  · rw [granted]
    exact grant_hauls s c r d

theorem yieldTest_hauls (s : State) (c : CarriageId) : Hauls slots s (s.yieldTest c) := by
  have y := yieldTest_yields s c
  refine .of_same (s.yieldTest_moves (R := fun _ _ => True) (S := fun _ _ => True) c).settings (fun q mem => by rwa [y.queue] at mem)
    (fun o mem => ?_) y.table y.marks
  unfold State.yieldTest State.yieldCarriage
  dsimp only
  repeat' split
  all_goals simp [mem]

theorem walk_hauls (l : List Request) (sub : ∀ r ∈ l, slots r.slot) (s : State) : Hauls slots s (l.foldl State.consider s) := by
  induction l generalizing s with
  | nil => exact .refl s
  | cons r l ih =>
    have first := (consider_hauls s r).mono fun i same => same ▸ sub r List.mem_cons_self
    exact first.trans (ih (fun x mem => sub x (List.mem_cons_of_mem r mem)) _)

/-- An arbitration hauls the slots that have requests. -/
theorem arbitrate_hauls (s : State) : Hauls (fun i => ∃ q ∈ s.queue, q.slot = i) s s.arbitrate := by
  unfold State.arbitrate
  split
  · exact ((walk_hauls _ (fun r mem => ⟨r, mem_queueOrder mem, rfl⟩) s).trans (yieldTest_hauls _ _)).trans (yieldTest_hauls _ _)
  · exact .refl s

/-- The signal hauls the slot it is given for (R74). -/
theorem signalCarriage_hauls (s : State) (slot : Slot) (c : CarriageId) : Hauls (· = slot) s (s.signalCarriage slot c) := by
  unfold State.signalCarriage
  split
  · next ready =>
    obtain ⟨_, waits⟩ := ready
    unfold State.signalReady at waits
    split at waits
    · next j job =>
      simp only [Bool.and_eq_true, beq_iff_eq] at waits
      exact (liftOrder_hauls job).mono fun i same => same.trans waits.1.2
    · simp at waits
  · exact .refl s

theorem signal_hauls (s : State) (slot : Slot) : Hauls (· = slot) s (s.signal slot) :=
  (signalCarriage_hauls s slot .one).trans (signalCarriage_hauls _ slot .two)

end

/-! ### The carriages and the requests at an arbitration -/

section

variable {s : State} {c : CarriageId}

/-- A carriage that is not free is left alone while another request is considered. -/
theorem consider_busy (r : Request) (busy : (s.carriage c).isFree = false) : (s.consider r).carriage c = s.carriage c := by
  rcases consider_cases s r with e | ⟨i, d, free, granted⟩
  · rw [e]
  · have apart : c = otherCarriage i := (carriage_or_other i c).resolve_left fun same => by simp [same, free] at busy
    rw [granted, apart, (grant_hoists s i r d).other, withoutSlot_carriage]

theorem walk_busy (l : List Request) (busy : (s.carriage c).isFree = false) : (l.foldl State.consider s).carriage c = s.carriage c := by
  induction l generalizing s with
  | nil => rfl
  | cons r l ih =>
    have kept := consider_busy r busy
    exact (ih (by rwa [kept])).trans kept

theorem yieldTest_busy (i : CarriageId) (busy : (s.carriage c).isFree = false) : (s.yieldTest i).carriage c = s.carriage c := by
  unfold State.yieldTest
  split
  · next test =>
    have apart : c = i := by
      rcases carriage_or_other i c with same | other
      · exact same
      · simp [other, Carriage.isFree, test.2] at busy
    subst apart
    have kept : (s.yieldCarriage (otherCarriage c)).carriage c = s.carriage c := by
      unfold State.yieldCarriage
      cases c <;> (dsimp only; split <;> rfl)
    split
    · split
      · split
        · rfl
        · exact kept
      · rfl
    · rfl
  · rfl

/-- An arbitration leaves a carriage that is not free as it is (R112, R114). -/
theorem arbitrate_busy (busy : (s.carriage c).isFree = false) : s.arbitrate.carriage c = s.carriage c := by
  unfold State.arbitrate
  split
  · have walked := walk_busy s.queueOrder busy
    have first := yieldTest_busy (s := s.queueOrder.foldl State.consider s) .one (by rwa [walked])
    have second := yieldTest_busy (s := (s.queueOrder.foldl State.consider s).yieldTest .one) .two (by rwa [first, walked])
    exact second.trans (first.trans walked)
  · rfl

/-- Carriage `c` has taken up request `r` as its job (R118). -/
def Granted (c : CarriageId) (r : Request) (t : State) : Prop :=
  (t.carriage c).isFree = false ∧ ∃ d phase, (t.carriage c).job = some { grantedJob r d with phase := phase }

/-- A request waits on while others are considered, until a free carriage takes one of its slot. -/
theorem walk_request {q : Request} (l : List Request) (mem : q ∈ s.queue) : q ∈ (l.foldl State.consider s).queue ∨
    ∃ c, (s.carriage c).isFree = true ∧ ∃ r ∈ l, r.slot = q.slot ∧ Granted c r (l.foldl State.consider s) := by
  induction l generalizing s with
  | nil => exact .inl mem
  | cons r l ih =>
    rw [List.foldl_cons]
    by_cases granted : ∃ i d, (s.carriage i).isFree = true ∧ s.consider r = s.grant i r d ∧ r.slot = q.slot
    · obtain ⟨i, d, free, e, same⟩ := granted
      have hoists := grant_hoists s i r d
      rw [← e] at hoists
      have kept := walk_busy l hoists.busy
      obtain ⟨phase, job⟩ := hoists.job
      exact .inr ⟨i, free, r, List.mem_cons_self, same, by rw [kept]; exact hoists.busy, d, phase, by rw [kept]; exact job⟩
    · have stays : q ∈ (s.consider r).queue := by
        rcases consider_cases s r with e | ⟨i, d, free, e⟩
        · rwa [e]
        · have other : r.slot ≠ q.slot := fun same => granted ⟨i, d, free, e, same⟩
          rw [e, (grant_hoists s i r d).queue]
          exact List.mem_filter.2 ⟨mem, by simpa using other.symm⟩
      refine (ih stays).imp_right fun ⟨i, free, x, memx, rest⟩ => ⟨i, ?_, x, List.mem_cons_of_mem r memx, rest⟩
      by_contra busy
      rw [consider_busy r (Bool.eq_false_iff.2 busy)] at free
      exact busy free

/-- At an arbitration a request stays in the queue, or a carriage that was free takes one of its slot as its job (R113, R118). -/
theorem arbitrate_request {q : Request} (mem : q ∈ s.queue) : q ∈ s.arbitrate.queue ∨
    s.lineState = .run ∧ ∃ c, (s.carriage c).isFree = true ∧ ∃ r ∈ s.queue, r.slot = q.slot ∧ Granted c r s.arbitrate := by
  by_cases run : s.lineState = .run
  · have y := arbitrate_run run
    rcases walk_request s.queueOrder mem with stays | ⟨c, free, r, memr, same, busy, d, phase, job⟩
    · exact .inl (by rwa [y.queue])
    · exact .inr ⟨run, c, free, r, mem_queueOrder memr, same, y.busy c busy, d, phase, (y.jobs c).trans job⟩
  · exact .inl (by rwa [arbitrate_idle run])

end

end Sys2Proof.Machine.HangerTable
end

section
/-! The entry of a carriage into FAULT (R52, R125 to R127, R140), and the reports that put it there or are discarded (R115, R116). -/

namespace Sys2Proof.Machine.HangerTable

open Sys2Proof.Machine.RecipeBanks

/-! ### A carriage in FAULT -/

theorem travelling_iff (x : Carriage) : x.travelling = true ↔ x.state = .toSource ∨ x.state = .toDest ∨ x.state = .yielding ∨
    (x.state = .halted ∧ ∃ st, x.halted = some (.goto st)) ∨ (x.state = .halted ∧ x.halted = some .park) := by
  unfold Carriage.travelling
  split
  case h_4 =>
    rw [‹x.state = .halted›]
    rcases x.halted with _ | (_ | _ | _ | _ | _) <;> simp
  all_goals simp_all

theorem beforeLift_iff (j : Job) : j.beforeLift = true ↔ j.phase = .toSource ∨ j.phase = .awaitLift := by
  simp [Job.beforeLift]

/-- A carriage in FAULT keeps a job that has sent LIFT (R126, R127). -/
theorem faulted_job (x : Carriage) (code : Nat) : (x.faulted code).job = x.job.filter fun j => !j.beforeLift := by
  unfold Carriage.faulted
  dsimp only
  split
  · next j job => cases moved : j.beforeLift <;> simp [job, Option.filter, moved]
  · next none => rw [none]; rfl

/-- The record of a carriage in FAULT, by the job it keeps (R125 to R127). -/
theorem faulted_eq_stopped (x : Carriage) (code : Nat) : x.faulted code = x.stopped code (x.job.filter fun j => !j.beforeLift) := by
  rw [← faulted_job x code]
  simp only [Carriage.faulted, Carriage.stopped, ← travelling_iff]

/-! ### The effects around the carriage -/

theorem silenceHoist_carriage (s : State) (j : Job) (c : CarriageId) : (s.silenceHoist j).carriage c = s.carriage c := by
  unfold State.silenceHoist
  split
  · exact silenceAuto_carriage s _ c
  · exact silenceAuto_carriage s _ c
  · rfl

theorem silenceHoist_same (s : State) (j : Job) : (s.silenceHoist j).settings = s.settings ∧ (s.silenceHoist j).queue = s.queue ∧
    (s.silenceHoist j).sent = s.sent ∧ (s.silenceHoist j).hangers = s.hangers ∧ (s.silenceHoist j).marks = s.marks ∧
    (s.silenceHoist j).stations = s.stations := by
  unfold State.silenceHoist State.silenceAuto
  repeat' split
  all_goals exact ⟨rfl, rfl, rfl, rfl, rfl, rfl⟩

/-- A lost hanger's record and mark are all that is written of it (R52). -/
theorem faultHanger_live {s : State} {slot : Slot} {h : Hanger} (f : FaultReason) (live : s.hangers[slot] = some h) :
    s.faultHanger slot f =
      (s.putHanger slot { h with state := .faulted, faultReason := some f }).mark .hangerFault slot.val := by
  simp only [State.faultHanger, live]

theorem putHanger_sent (s : State) (slot : Slot) (h : Hanger) : (s.putHanger slot h).sent = s.sent := by
  unfold State.putHanger
  dsimp only
  repeat' split
  all_goals rfl

theorem mark_carriage (s : State) (k : Kind) (n : Nat) (c : CarriageId) : (s.mark k n).carriage c = s.carriage c := by
  cases c <;> rfl

theorem faultHanger_same (s : State) (slot : Slot) (f : FaultReason) : (s.faultHanger slot f).queue = s.queue ∧
    (s.faultHanger slot f).sent = s.sent ∧ (s.faultHanger slot f).stations = s.stations ∧
    (∀ c, (s.faultHanger slot f).carriage c = s.carriage c) ∧ (∀ i : Slot, i ≠ slot → (s.faultHanger slot f).hangers[i] = s.hangers[i]) ∧
    ∀ k n, s.hasMark k n = true → (s.faultHanger slot f).hasMark k n = true := by
  unfold State.faultHanger
  split
  · exact ⟨rfl, rfl, rfl, fun _ => rfl, fun _ _ => rfl, fun _ _ => id⟩
  · exact ⟨putHanger_queue .., putHanger_sent .., State.putHanger_stations .., fun c => (mark_carriage ..).trans
      (State.putHanger_carriage ..), fun i other => (State.putHanger_get ..).trans (if_neg other), fun k n m =>
      hasMark_mark _ _ (putHanger_hasMark _ _ m)⟩

/-! ### The entry into FAULT -/

section

variable (s : State) (c : CarriageId) (code : Nat) (reason : FaultReason)

/-- The state in which the carriage is in FAULT and marked, before its job is seen to. -/
def inFault : State := (s.setCarriage c ((s.carriage c).faulted code)).mark .carriageFault (carriageNumber c)

theorem inFault_carriage : (inFault s c code).carriage c = (s.carriage c).faulted code :=
  (mark_carriage ..).trans (State.setCarriage_same ..)

theorem inFault_other : (inFault s c code).carriage (otherCarriage c) = s.carriage (otherCarriage c) :=
  (mark_carriage ..).trans (State.setCarriage_apart ..)

theorem inFault_same : (inFault s c code).settings = s.settings ∧ (inFault s c code).queue = s.queue ∧
    (inFault s c code).sent = s.sent ∧ (inFault s c code).hangers = s.hangers ∧ (inFault s c code).stations = s.stations := by
  simp [inFault]

theorem inFault_marked : (inFault s c code).hasMark .carriageFault (carriageNumber c) = true := hasMark_mark_self _ _ _

/-- A request given back by a carriage in FAULT waits, or the other carriage takes it at once (R103, R126). -/
theorem returnRequest_placed {j : Job} : let t := (inFault s c code).returnRequest j
    t.carriage c = (s.carriage c).faulted code ∧ (⟨j.slot, j.cls, j.deadline, j.source, some j.destination⟩ ∈ t.queue ∨
      ∃ k, (t.carriage (otherCarriage c)).job = some k ∧ k.slot = j.slot) := by
  intro t
  generalize atQueue : ({ inFault s c code with
    queue := insertRequest ⟨j.slot, j.cls, j.deadline, j.source, some j.destination⟩ (inFault s c code).queue } : State) = u
  have back : t = u.arbitrate := by rw [← atQueue]; rfl
  have here : u.carriage c = (s.carriage c).faulted code := by
    rw [← inFault_carriage s c code, ← atQueue]
    cases c <;> rfl
  have busy : (u.carriage c).isFree = false := by rw [here]; rfl
  have mem : ⟨j.slot, j.cls, j.deadline, j.source, some j.destination⟩ ∈ u.queue := by
    rw [← atQueue]
    exact mem_insertRequest _ _
  rw [back]
  refine ⟨(arbitrate_busy busy).trans here, (arbitrate_request mem).imp_right ?_⟩
  rintro ⟨_, i, free, r, _, same, _, d, phase, job⟩
  have other : i = otherCarriage c := (carriage_or_other c i).resolve_left fun e => by simp [e, busy] at free
  exact ⟨_, other ▸ job, same⟩

theorem faultCarriage_entersFault : State.entersFault c code reason s (s.faultCarriage c code reason) := by
  have settings : (s.faultCarriage c code reason).settings = s.settings :=
    (s.faultCarriage_moves (R := fun _ _ => True) (S := fun _ _ => True) (fun _ _ _ => trivial) c code reason).settings
  obtain ⟨_, queue, sent, table, stations⟩ := inFault_same s c code
  have marked := inFault_marked s c code
  have stopped := faulted_eq_stopped (s.carriage c) code
  refine ⟨settings, ?_⟩
  unfold State.faultCarriage
  dsimp only
  cases job : (s.carriage c).job with
  | none =>
    rw [job] at stopped
    exact ⟨marked, (inFault_carriage s c code).trans stopped, table, queue, inFault_other s c code, sent, stations⟩
  | some j =>
    rw [job, Option.filter] at stopped
    dsimp only
    simp only [← beforeLift_iff]
    split
    · next before =>
      rw [if_neg (by simp [before])] at stopped
      have placed := returnRequest_placed s c code (j := j)
      rw [stopped] at placed
      refine ⟨(arbitrate_hauls _).marks _ _ marked, placed.1, placed.2, ?_⟩
      exact (arbitrate_stations _).trans stations
    · next before =>
      rw [if_pos (by simp [before])] at stopped
      obtain ⟨_, queue', sent', table', marks', stations'⟩ := silenceHoist_same (inFault s c code) j
      have carriage' := silenceHoist_carriage (inFault s c code) j
      obtain ⟨queue'', sent'', stations'', carriage'', others'', marks''⟩ :=
        faultHanger_same ((inFault s c code).silenceHoist j) j.slot reason
      refine ⟨marks'' _ _ ((hasMark_congr marks' _ _).trans marked),
        ((carriage'' c).trans ((carriage' c).trans (inFault_carriage s c code))).trans stopped,
        queue''.trans (queue'.trans queue), (carriage'' _).trans ((carriage' _).trans (inFault_other s c code)),
        sent''.trans (sent'.trans sent), stations''.trans (stations'.trans stations), fun h live => ?_, fun i other => ?_⟩
      · have here : ((inFault s c code).silenceHoist j).hangers[j.slot] = some h := by rw [table', table]; exact live
        have lost := faultHanger_live reason here
        constructor
        · exact (congrArg (fun t : State => t.hangers[j.slot]) lost).trans ((State.putHanger_get ..).trans (if_pos rfl))
        · exact (congrArg (fun t : State => t.hasMark .hangerFault j.slot.val) lost).trans (hasMark_mark_self ..)
      · rw [← table, ← table']
        exact others'' i other

end

/-! ### Reports -/

theorem deaf_iff (x : CarriageState) : x.deaf = true ↔ x = .unplaced ∨ x = .disabled ∨ x = .fault := by
  cases x <;> decide

/-- A report that no outstanding order answers is stray (R115, R116). -/
theorem report_stray {s : State} {c : CarriageId} {answers : Order → Bool} {advance : State → State}
    (stray : ∀ o b, ((s.heard c).carriage c).order = some ⟨o, b⟩ → answers o = false) :
    s.report c answers advance = (s.heard c).strayReport c := by
  unfold State.report
  show (match ((s.heard c).carriage c).order with | some _ => _ | none => _) = _
  split
  · next o order =>
    have := stray o.order o.timeout order
    rw [if_neg (by simp [this])]
    rfl
  · rfl

theorem reportedCode_eq (code : Byte) : reportedCode code = if 4 ≤ code.toNat ∧ code.toNat ≤ 15 then code.toNat else 2 := rfl

/-- A stray report is discarded, or puts the carriage into FAULT with PROTOCOL (R116). -/
theorem strayReport_cases (s : State) (c : CarriageId) :
    let x := (s.carriage c).state
    let quiet := x = .unplaced ∨ x = .disabled ∨ x = .fault ∨ x = .halted
    (quiet → s.strayReport c = s) ∧ (¬quiet → State.entersFault c 2 .carriageFault s (s.strayReport c)) := by
  intro x quiet
  have test : (x.deaf || x == .halted) = true ↔ quiet := by
    simp only [Bool.or_eq_true, deaf_iff, beq_iff_eq, quiet, or_assoc]
  unfold State.strayReport
  refine ⟨fun q => if_pos (test.2 q), fun q => ?_⟩
  rw [if_neg fun h => q (test.1 h)]
  exact faultCarriage_entersFault s c protocolCode .carriageFault

theorem faultReport_cases (s : State) (c : CarriageId) (code : Byte) :
    let u := s.heard c
    let x := (u.carriage c).state
    (x = .unplaced ∨ x = .disabled ∨ x = .fault → exec (.faultReport c code) s = .next u) ∧
    (x ≠ .unplaced → x ≠ .disabled → x ≠ .fault → ∃ t, exec (.faultReport c code) s = .next t ∧
      State.entersFault c (if 4 ≤ code.toNat ∧ code.toNat ≤ 15 then code.toNat else 2) .carriageFault u t) := by
  intro u x
  have e : exec (.faultReport c code) s = .next (if x.deaf then u else u.faultCarriage c (reportedCode code) .carriageFault) := rfl
  rw [e]
  refine ⟨fun deaf => by rw [if_pos ((deaf_iff x).2 deaf)], fun placed enabled sound => ⟨_, rfl, ?_⟩⟩
  rw [if_neg fun h => ((deaf_iff x).1 h).elim placed (Or.elim · enabled sound), reportedCode_eq]
  exact faultCarriage_entersFault u c _ .carriageFault

/-- Settles O25: a report that finds no order it answers, and a FAULT report, discard themselves or put the carriage into FAULT, whose entry
`faultCarriage_entersFault` describes. -/
theorem reportsOutOfPlaceStopTheCarriage : Obligations.ReportsOutOfPlaceStopTheCarriage := by
  unfold Obligations.ReportsOutOfPlaceStopTheCarriage
  refine ⟨faultReport_cases, ?_⟩
  intro s c arg i u x quiet _ stray
  have told : exec i s = .next (u.strayReport c) := by
    rcases stray with ⟨rfl, none⟩ | ⟨rfl, none⟩ | ⟨rfl, none⟩ | ⟨rfl, none⟩ <;>
      refine congrArg Host.Outcome.next (report_stray fun o b order => ?_) <;> cases o
    case inl.goto st => simpa [answersArrived] using none st b order
    case inr.inl.park => exact absurd order (none b)
    case inr.inr.inl.lift n => simpa [answersLifted] using none n b order
    case inr.inr.inr.lower n => simpa [answersLowered] using none n b order
    all_goals rfl
  obtain ⟨discarded, faults⟩ := strayReport_cases u c
  exact ⟨fun q => told.trans (congrArg _ (discarded q)), fun q => ⟨_, told, faults q⟩⟩

end Sys2Proof.Machine.HangerTable
end

section
/-! A LIFT order, with whatever hauls come before and after it (R50, R74 to R76, R120, R140), and the reports that answer an order
(R115). -/

namespace Sys2Proof.Machine.HangerTable

open Sys2Proof.Machine.RecipeBanks

/-! ### A LIFT order -/

theorem advance_carriage (s : State) (c : CarriageId) (x : CarriageState) : (s.advance c x).carriage c =
    { s.carriage c with state := x, job := (s.carriage c).job.map fun j => { j with phase := x } } :=
  State.setCarriage_same s c _

section

variable {s : State} {c : CarriageId} {j : Job}

theorem liftOrder_eq (job : (s.carriage c).job = some j) : s.liftOrder c =
    (((s.advance c .lifting).sendOrder c (.lift j.source.bay)).liftRecord j.slot).silenceAuto (valveOf j.source.station) := by
  simp only [State.liftOrder, job]

/-- The carriage after its LIFT order (R117, R120). -/
theorem liftOrder_carriage (job : (s.carriage c).job = some j) : (s.liftOrder c).carriage c = { s.carriage c with
    state := .lifting
    job := some { j with phase := .lifting }
    order := some ⟨.lift j.source.bay, beatPlus s.beat s.params.liftTimeout⟩ } := by
  have beat : (s.advance c .lifting).beat = s.beat := State.setCarriage_beat ..
  have params : (s.advance c .lifting).params = s.params := State.setCarriage_params ..
  rw [liftOrder_eq job, silenceAuto_carriage, liftRecord_carriage, sendOrder_carriage, advance_carriage, job, beat]
  simp only [Option.map_some, State.allowance, params]

theorem liftOrder_other (job : (s.carriage c).job = some j) :
    (s.liftOrder c).carriage (otherCarriage c) = s.carriage (otherCarriage c) := (liftOrder_hoists job).other

theorem silenceAuto_sent (s : State) (ch : ChannelNo) : (s.silenceAuto ch).sent = s.sent := by
  unfold State.silenceAuto
  split <;> rfl

theorem liftOrder_sent (job : (s.carriage c).job = some j) : (c, .lift j.source.bay) ∈ (s.liftOrder c).sent := by
  rw [liftOrder_eq job, silenceAuto_sent]
  exact (liftRecord_hauls _ _).sent _ (by simp)

/-- A channel silenced in AUTO is off (R136, R140). -/
theorem silenceAuto_off (s : State) (ch : ChannelNo) (auto : (s.silenceAuto ch).channels[ch].mode = .auto) :
    (s.silenceAuto ch).channels[ch].staged = false ∧ (s.silenceAuto ch).channels[ch].latch = false := by
  unfold State.silenceAuto at auto ⊢
  split
  · rw [State.setChannel_get, if_pos rfl]
    exact ⟨rfl, rfl⟩
  · next other =>
    rw [if_neg other] at auto
    exact absurd auto other

theorem liftOrder_valve (job : (s.carriage c).job = some j) (auto : (s.liftOrder c).channels[valveOf j.source.station].mode = .auto) :
    (s.liftOrder c).channels[valveOf j.source.station].staged = false ∧
      (s.liftOrder c).channels[valveOf j.source.station].latch = false := by
  rw [liftOrder_eq job] at auto ⊢
  exact silenceAuto_off _ _ auto

theorem liftOrder_record (job : (s.carriage c).job = some j) :
    (s.liftOrder c).hangers[j.slot] = (s.hangers[j.slot]).map s.liftedHanger := by
  have banks : ((s.advance c .lifting).sendOrder c (.lift j.source.bay)).banks = s.banks := by simp [State.advance]
  rw [liftOrder_eq job, State.silenceAuto_hangers, liftRecord_get, if_pos rfl, liftedHanger_congr banks]
  simp [State.advance]

theorem overshoots_iff (s : State) (h : Hanger) : s.overshoots h = true ↔ s.legKind h = some .exactDose ∧
    ∃ tg, h.target = some tg ∧ tg * s.params.tolerance / 1000 < h.dose - tg := by
  unfold State.overshoots
  rw [Bool.and_eq_true, beq_iff_eq]
  cases h.target with
  | none => simp
  | some tg =>
    simp only [decide_eq_true_eq, Option.some.injEq, exists_eq_left']
    rfl

/-- A lift of a leg whose overshoot is above the allowance marks it (R76). -/
theorem liftRecord_overshoot {s : State} {slot : Slot} {h : Hanger} (live : s.hangers[slot] = some h) (above : s.overshoots h = true) :
    (s.liftRecord slot).hasMark .overshoot slot.val = true := by
  simp only [State.liftRecord, live, above, if_true]
  exact hasMark_mark_self _ _ _

theorem liftOrder_overshoot {h : Hanger} (job : (s.carriage c).job = some j) (live : s.hangers[j.slot] = some h)
    (above : s.overshoots h = true) : (s.liftOrder c).hasMark .overshoot j.slot.val = true := by
  have settings : ((s.advance c .lifting).sendOrder c (.lift j.source.bay)).settings = s.settings := by simp [State.advance]
  rw [liftOrder_eq job, silenceAuto_hasMark]
  refine liftRecord_overshoot (h := h) (by simpa [State.advance] using live) ?_
  rwa [overshoots_congr settings rfl rfl rfl rfl]

end

/-! ### A LIFT order among hauls -/

section

variable {slots slots' : Slot → Prop} {u a t : State} {c : CarriageId} {j : Job} {h : Hanger}

/-- Whatever else was hauled, a record ends as its lift leaves it: a second lift of it measures the same. -/
theorem liftsRecord_of_hauls (before : Hauls slots u a) (job : (a.carriage c).job = some j) (live : u.hangers[j.slot] = some h)
    (after : Hauls slots' (a.liftOrder c) t) : State.liftsRecord j.slot h u t := by
  have order := liftOrder_hauls job
  have same := liftedHanger_of_settings before.settings
  have same' := liftedHanger_of_settings (order.settings.trans before.settings)
  have lifted : (a.liftOrder c).hangers[j.slot] = some (u.liftedHanger h) := by
    rw [liftOrder_record job]
    rcases before.record live with e | e <;> simp [e, same, liftedHanger_twice]
  have record : t.hangers[j.slot] = some (u.liftedHanger h) := by
    rcases after.record lifted with e | e
    · exact e
    · rw [e, same', liftedHanger_twice]
  refine ⟨record, ?_⟩
  rw [← overshoots_iff]
  constructor
  · intro marked
    have whole : Hauls (fun _ => True) u t :=
      ((before.mono fun _ _ => trivial).trans (order.mono fun _ _ => trivial)).trans (after.mono fun _ _ => trivial)
    refine (whole.overshoot j.slot marked).imp_right fun ⟨g, live', above⟩ => ?_
    cases live.symm.trans live'
    exact above
  · rintro (marked | above)
    · exact after.marks _ _ (order.marks _ _ (before.marks _ _ marked))
    · refine after.marks _ _ ?_
      rcases before.record live with e | e <;> refine liftOrder_overshoot job e ?_ <;> rw [← above] <;>
        exact overshoots_congr before.settings rfl rfl rfl rfl

/-- A carriage that sends LIFT and is left alone afterwards, while channels are at most turned off (R117, R120, R140). -/
theorem sendsLift_of_hauls (before : Hauls slots u a) (job : (a.carriage c).job = some j) (live : u.hangers[j.slot] = some h)
    (after : Hauls slots' (a.liftOrder c) t) (carriage : t.carriage c = (a.liftOrder c).carriage c)
    (channels : ∀ ch : ChannelNo, t.channels[ch] = (a.liftOrder c).channels[ch] ∨
      t.channels[ch] = { (a.liftOrder c).channels[ch] with staged := false, latch := false }) : State.sendsLift c j h u t := by
  have settings := after.settings.trans (liftOrder_hauls job).settings
  have beat : t.beat = a.beat := congrArg Settings.beat settings
  have params : u.params = a.params := (congrArg Settings.params before.settings).symm
  unfold State.sendsLift
  rw [carriage, liftOrder_carriage job, beat, params]
  refine ⟨rfl, rfl, rfl, after.sent _ (liftOrder_sent job), liftsRecord_of_hauls before job live after, fun _ auto => ?_⟩
  rcases channels (valveOf j.source.station) with e | e
  · rw [e] at auto ⊢
    exact liftOrder_valve job auto
  · rw [e]
    exact ⟨rfl, rfl⟩

end

/-! ### Reports -/

/-- A report that answers the outstanding order clears it and carries on (R115). -/
theorem report_answered {s : State} {c : CarriageId} {answers : Order → Bool} {advance : State → State} {o : Order} {b : Beat}
    (order : ((s.heard c).carriage c).order = some ⟨o, b⟩) (yes : answers o = true) :
    s.report c answers advance = advance ((s.heard c).clearOrder c) := by
  unfold State.report
  show (match ((s.heard c).carriage c).order with | some _ => _ | none => _) = _
  rw [order]
  exact if_pos yes

theorem clearOrder_carriage (s : State) (c : CarriageId) : (s.clearOrder c).carriage c = { s.carriage c with order := none } :=
  State.setCarriage_same s c _

/-- A report finds the clock and the parameters as they were: settling what a beat left touches no setting but the list of it (log 4). -/
theorem heard_settings (s : State) (c : CarriageId) :
    (s.heard c).settings = { s.settings with receivers := s.receivers.await (.link c), due := [] } :=
  (State.settle_moves (R := fun _ _ => True) (S := fun _ _ => True) (fun _ => trivial) (fun _ _ _ => trivial)
    (s.received (.link c)).begin).settings

end Sys2Proof.Machine.HangerTable
end

section
/-! ARRIVED at the source (R119, R120). -/

namespace Sys2Proof.Machine.HangerTable

open Sys2Proof.Machine.RecipeBanks

/-- The dose of a record with a target (R73). -/
theorem doseReached_iff {s : State} {slot : Slot} {h : Hanger} {tg : Nat} (live : s.hangers[slot] = some h) (target : h.target = some tg) :
    s.doseReached slot = decide (tg ≤ h.dose) := by
  simp only [State.doseReached, live, target]

/-- A haul leaves the dose of a record where it was against its target. -/
theorem Hauls.doseReached {slots : Slot → Prop} {s t : State} (m : Hauls slots s t) {i : Slot} {h : Hanger} {tg : Nat}
    (live : s.hangers[i] = some h) (target : h.target = some tg) : t.doseReached i = decide (tg ≤ h.dose) := by
  rcases m.record live with e | e
  · exact doseReached_iff e target
  · exact doseReached_iff (h := s.liftedHanger h) e target

section

variable (u : State) (c : CarriageId) (j : Job)

/-- The carriage where it has arrived, its order answered (R119). -/
def arrivedCarriage : Carriage := { u.carriage c with
  order := none
  position := some (j.source.station.val : Int)
  span := some (hull2 j.source.station.val j.destination.station.val) }

/-- The state in which the arbitration at the arrival finds the line. -/
def atSource : State := (u.clearOrder c).setCarriage c (arrivedCarriage u c j)

theorem atSource_settings : (atSource u c j).settings = u.settings := by simp [atSource, State.clearOrder]

theorem atSource_same : (atSource u c j).queue = u.queue ∧ (atSource u c j).hangers = u.hangers ∧
    (atSource u c j).marks = u.marks ∧ (atSource u c j).stations = u.stations ∧ (atSource u c j).sent = u.sent := by
  simp [atSource, State.clearOrder]

/-- What the arbitration at the arrival hauls (R113, R118). -/
theorem atSource_hauls : Hauls (fun i => ∃ q ∈ u.queue, q.slot = i) u (atSource u c j).arbitrate := by
  obtain ⟨queue, table, marks, _, sent⟩ := atSource_same u c j
  have found : Hauls (fun i => ∃ q ∈ u.queue, q.slot = i) u (atSource u c j) :=
    .of_same (atSource_settings u c j) (fun q mem => by rwa [queue] at mem) (fun o mem => by rwa [sent]) table marks
  refine found.trans ?_
  rw [← queue]
  exact arbitrate_hauls _

variable {u c j}

theorem atSource_carriage (toSource : (u.carriage c).state = .toSource) :
    (atSource u c j).arbitrate.carriage c = arrivedCarriage u c j := by
  have here : (atSource u c j).carriage c = arrivedCarriage u c j := State.setCarriage_same ..
  refine (arbitrate_busy ?_).trans here
  rw [here]
  simp [Carriage.isFree, arrivedCarriage, toSource]

/-- ARRIVED at the source is the arbitration at the arrival and then the lift, or the wait for the dose. -/
theorem arrive_source (toSource : (u.carriage c).state = .toSource) (job : (u.carriage c).job = some j) :
    (u.clearOrder c).arrive c = (atSource u c j).arbitrate.liftOrAwait c := by
  have cleared : (u.clearOrder c).carriage c = { u.carriage c with order := none } := clearOrder_carriage u c
  have source : (u.clearOrder c).arrive c = (u.clearOrder c).arriveSource c j := by
    unfold State.arrive
    rw [cleared]
    dsimp only
    rw [job]
    exact if_pos toSource
  rw [source, State.arriveSource, cleared]
  rfl

theorem liftOrAwait_awaits {s : State} (job : (s.carriage c).job = some j) (exactLeg : j.cls = .exactDose)
    (below : s.doseReached j.slot = false) : s.liftOrAwait c = s.advance c .awaitLift := by
  simp only [State.liftOrAwait, job]
  exact if_pos ⟨exactLeg, below⟩

theorem liftOrAwait_lifts {s : State} (job : (s.carriage c).job = some j)
    (ready : j.cls ≠ .exactDose ∨ s.doseReached j.slot = true) : s.liftOrAwait c = s.liftOrder c := by
  simp only [State.liftOrAwait, job]
  exact if_neg fun ⟨exactLeg, below⟩ => ready.elim (· exactLeg) fun reached => by simp [below] at reached

/-- Over the source bay a carriage keeps its place and its span, whether it lifts or awaits the dose (R119). -/
theorem liftOrAwait_stands {s : State} (job : (s.carriage c).job = some j) :
    ((s.liftOrAwait c).carriage c).position = (s.carriage c).position ∧ ((s.liftOrAwait c).carriage c).span = (s.carriage c).span := by
  by_cases awaits : j.cls = .exactDose ∧ s.doseReached j.slot = false
  · rw [liftOrAwait_awaits job awaits.1 awaits.2, advance_carriage]
    exact ⟨rfl, rfl⟩
  · rw [liftOrAwait_lifts job (by simpa [or_iff_not_imp_left] using awaits), liftOrder_carriage job]
    exact ⟨rfl, rfl⟩

theorem liftOrAwait_stations (s : State) (c : CarriageId) : (s.liftOrAwait c).stations = s.stations := by
  have moves : LineMove (fun _ _ => True) (fun x x' => x' = x) s (s.liftOrAwait c) := s.liftOrAwait_moves (fun _ _ _ => trivial) c
  ext i hi : 1
  exact moves.station_of (S := fun x x' => x' = x) (fun _ => Eq.refl _) (fun _ _ _ a b => Eq.trans b a) ⟨i, hi⟩

/-- Where the moves agree, a slot that is a carriage's job has no request (R93). -/
theorem no_request_of_job {s : State} (agrees : s.movesAgree) (job : (s.carriage c).job = some j) : ∀ q ∈ s.queue, q.slot ≠ j.slot := by
  obtain ⟨⟨_, requests, _⟩, _⟩ := agrees
  intro q mem
  exact ((requests q mem).1 c j job).symm

end

/-- Settles O21: the arbitration at the arrival hauls the slots with requests and leaves the carriage alone, which then awaits the dose, or
lifts as `sendsLift_of_hauls` says. -/
theorem arrivedAtTheSource : Obligations.ArrivedAtTheSource := by
  unfold Obligations.ArrivedAtTheSource
  intro s c j b u toSource job order
  have byte : answersArrived (byte j.source.station.val) (.goto j.source.station) = true := by
    have back : (Machine.byte j.source.station.val).toNat = j.source.station.val := byte_toNat_of_lt (by omega)
    simp [answersArrived, back]
  have heard : exec (.arrived c (Machine.byte j.source.station.val)) s = .next ((u.clearOrder c).arrive c) :=
    congrArg Host.Outcome.next (report_answered order byte)
  have settings : u.settings = _ := heard_settings s c
  have beat : u.beat = s.beat := congrArg Settings.beat settings
  have params : u.params = s.params := congrArg Settings.params settings
  have hauls := atSource_hauls u c j
  have here : (atSource u c j).arbitrate.carriage c = arrivedCarriage u c j := atSource_carriage toSource
  have job' : ((atSource u c j).arbitrate.carriage c).job = some j := by rw [here]; exact job
  rw [arrive_source toSource job] at heard
  have stations : ((atSource u c j).arbitrate.liftOrAwait c).stations = u.stations :=
    (liftOrAwait_stations _ c).trans ((arbitrate_stations _).trans (atSource_same u c j).2.2.2.1)
  have stands := liftOrAwait_stands job'
  rw [here] at stands
  refine ⟨_, heard, (liftOrAwait_hauls job').settings.trans hauls.settings, stations, stands.1, stands.2, ?_, fun ready => ?_⟩
  · rintro ⟨exactLeg, h, tg, live, target, below⟩
    rw [liftOrAwait_awaits job' exactLeg (by rw [hauls.doseReached live target]; simpa using below), advance_carriage, here]
    refine ⟨rfl, rfl, congrArg (Option.map _) job, fun idle => ?_, fun i out => ?_⟩
    · have idle' : (atSource u c j).lineState ≠ .run := fun e => idle ((congrArg Settings.lineState (atSource_settings u c j)).symm.trans e)
      rw [arbitrate_idle idle']
      obtain ⟨_, table, marks, _, _⟩ := atSource_same u c j
      exact ⟨(State.setCarriage_hangers ..).trans table, (State.setCarriage_marks ..).trans marks⟩
    · have out' : ¬∃ q ∈ u.queue, q.slot = i := by
        rintro ⟨q, mem, same⟩
        rcases out with none | ⟨rfl, agrees⟩
        · exact none q mem same
        · exact no_request_of_job agrees job q mem same
      have spared := (hauls.trans (advance_hauls _ c .awaitLift)).spared i out'
      exact ⟨spared.1, fun k _ => spared.2 k⟩
  · have ready' : j.cls ≠ .exactDose ∨ (atSource u c j).arbitrate.doseReached j.slot = true :=
      ready.imp_right fun ⟨h, tg, live, target, reached⟩ => by rw [hauls.doseReached live target]; simpa using reached
    have lineBeat : (atSource u c j).arbitrate.beat = s.beat := (congrArg Settings.beat hauls.settings).trans beat
    have lineParams : (atSource u c j).arbitrate.params = s.params := (congrArg Settings.params hauls.settings).trans params
    rw [liftOrAwait_lifts job' ready', liftOrder_carriage job', lineBeat, lineParams]
    exact ⟨rfl, rfl, rfl, liftOrder_sent job', fun h live =>
      sendsLift_of_hauls hauls job' live (.refl (slots := fun _ => True) _) rfl fun _ => .inl rfl⟩

end Sys2Proof.Machine.HangerTable
end

section
/-! LOWERED (R51, R60, R61, R82, R83, R123, R139): the beginning of a leg, the charge of the bath, and the end of the job. -/

namespace Sys2Proof.Machine.HangerTable

open Sys2Proof.Machine.RecipeBanks

/-! ### The bay and the tank -/

/-- A bay that becomes OCCUPIED: its station's phase origin is the current beat where the tank was empty (R123, R139). -/
theorem occupyBay_station (s : State) (slot : Slot) (d : BayRef) (i : StationNo) : (s.occupyBay slot d).stations[i] =
    if i = d.station then { s.stations[d.station] with
      bays := s.stations[d.station].bays.set d.bay.val { s.bayAt d with state := .occupied slot }
      phaseOrigin := if s.stations[d.station].anyOccupied then s.stations[d.station].phaseOrigin else s.beat }
    else s.stations[i] := by
  unfold State.occupyBay State.setBay
  dsimp only
  split
  · exact State.setStation_get ..
  · rw [State.setStation_get, State.setStation_get, State.setStation_get, if_pos rfl]
    split <;> rfl

theorem occupyBay_bayAt_other (s : State) (slot : Slot) {d r : BayRef} (other : r ≠ d) : (s.occupyBay slot d).bayAt r = s.bayAt r := by
  obtain ⟨st, b⟩ := r
  rw [State.bayAt, occupyBay_station]
  split
  · next same =>
    have here : st = d.station := same
    subst here
    have apart : b ≠ d.bay := fun e => other (by rw [e])
    show (s.stations[d.station].bays.set d.bay.val _)[b] = s.stations[d.station].bays[b]
    rw [vector_get_set, if_neg apart]
  · rfl

theorem occupyBay_same (s : State) (slot : Slot) (d : BayRef) : (s.occupyBay slot d).settings = s.settings ∧
    (s.occupyBay slot d).sent = s.sent ∧ (s.occupyBay slot d).marks = s.marks := by
  unfold State.occupyBay
  dsimp only
  split <;> exact ⟨rfl, rfl, rfl⟩

/-! ### The charge of a bath -/

/-- The charge writes the bath of a DEVELOP station alone (R82, R83). -/
theorem chargeBath_station (s : State) (st i : StationNo) (area : Nat) : (s.chargeBath st area).stations[i] =
    if i = st ∧ s.stations[st].cls = .develop then
      (s.stations[st].charged (chargeLoss area s.stations[st].exhaust)).accumulated area
    else s.stations[i] := by
  unfold State.chargeBath
  dsimp only
  split
  · next develop =>
    have written : ∀ x : Station, (s.setStation st x).stations[i] = if i = st ∧ s.stations[st].cls = .develop then x else s.stations[i] :=
      fun x => by rw [State.setStation_get]; simp only [develop, and_true]
    split <;> split <;> exact written _
  · next other => exact (if_neg fun here => other here.2).symm

theorem chargeBath_same (s : State) (st : StationNo) (area : Nat) : (s.chargeBath st area).settings = s.settings ∧
    (s.chargeBath st area).queue = s.queue ∧ (s.chargeBath st area).hangers = s.hangers ∧
    (s.chargeBath st area).channels = s.channels ∧ (s.chargeBath st area).sent = s.sent ∧
    (∀ c, (s.chargeBath st area).carriage c = s.carriage c) ∧
    ∀ k n, s.hasMark k n = true → (s.chargeBath st area).hasMark k n = true := by
  unfold State.chargeBath
  dsimp only
  repeat' split
  all_goals refine ⟨rfl, rfl, rfl, rfl, rfl, fun c => by cases c <;> rfl, fun k n m => ?_⟩
  · exact hasMark_mark _ _ (hasMark_mark _ _ m)
  · exact hasMark_mark _ _ m
  · exact hasMark_mark _ _ m
  · exact m
  · exact m

/-- A charge that reaches the floor of a bath, or calls for a replenishment that is dropped, is marked (R82, R83). -/
theorem chargeBath_marks (s : State) (st : StationNo) (area : Nat) (develop : s.stations[st].cls = .develop) :
    (reachesFloor s.stations[st] (chargeLoss area s.stations[st].exhaust) = true →
      (s.chargeBath st area).hasMark .exhausted st.val = true) ∧
    (dropsCall s.stations[st] area = true → (s.chargeBath st area).hasMark .replenishBacklog st.val = true) := by
  unfold State.chargeBath
  simp only [develop, if_true]
  refine ⟨fun floor => ?_, fun drops => ?_⟩
  · rw [if_pos floor]
    split
    · exact hasMark_mark _ _ (hasMark_mark_self _ _ _)
    · exact hasMark_mark_self _ _ _
  · rw [if_pos drops]
    exact hasMark_mark_self _ _ _

/-- The charge touches no bay and no phase origin. -/
theorem chargeBath_tank (s : State) (st i : StationNo) (area : Nat) :
    (s.chargeBath st area).stations[i].bays = s.stations[i].bays ∧
      (s.chargeBath st area).stations[i].phaseOrigin = s.stations[i].phaseOrigin := by
  rw [chargeBath_station]
  split
  · next here =>
    rw [here.1]
    unfold Station.accumulated Station.charged
    dsimp only
    split <;> exact ⟨rfl, rfl⟩
  · exact ⟨rfl, rfl⟩

/-! ### The record of the next leg -/

theorem targetDose_eq (time : Nat) (push : Int) : targetDose time push = (((time : Int) * 16 * (100 + push) + 50) / 100).toNat := by
  unfold targetDose
  omega

section

variable (s : State) (h : Hanger) (d : BayRef)

/-- The record on its next leg, before the kind of the leg is looked at (R51). -/
def onNextLeg : Hanger :=
  { h with leg := h.leg + 1, position := some d, destination := none, stepStart := s.beat, overstayNoted := false, faultReason := none }

theorem nextLeg_unload (next : (s.stepsOf h)[h.leg]? = none) :
    s.nextLeg h d = { onNextLeg s h d with state := .finished, target := none } := by
  simp only [State.nextLeg, next, onNextLeg]

variable {k : Step} (next : (s.stepsOf h)[h.leg]? = some k)
include next

theorem nextLeg_exact (kind : k.kind = .exactDose) : s.nextLeg h d = { onNextLeg s h d with
    state := .immersed, target := some (((k.time : Int) * 16 * (100 + h.push) + 50) / 100).toNat, dose := 0, fraction := 0,
    overshoot := none, provisional := false } := by
  simp only [State.nextLeg, next, kind, if_true, onNextLeg, targetDose_eq]

theorem nextLeg_other (kind : k.kind ≠ .exactDose) :
    s.nextLeg h d = { onNextLeg s h d with state := .immersed, target := none } := by
  simp only [State.nextLeg, next, kind, if_false, onNextLeg]

end

/-! ### The beginning of a leg -/

section

variable {s : State} {slot : Slot} {h : Hanger} {d : BayRef}

/-- The hanger in its new bay on its next leg, before the bath is charged (R51, R123). -/
def inNewBay (s : State) (slot : Slot) (h : Hanger) (d : BayRef) : State :=
  let t := (s.occupyBay slot d).putHanger slot (s.nextLeg h d)
  if (s.nextLeg h d).state = .finished then t.mark .hangerDone slot.val else t

theorem beginLeg_eq (live : s.hangers[slot] = some h) (dest : h.destination = some d) :
    s.beginLeg slot = (inNewBay s slot h d).chargeBath d.station h.area := by
  simp only [State.beginLeg, live, dest]
  rfl

theorem inNewBay_same : (inNewBay s slot h d).settings = s.settings ∧ (inNewBay s slot h d).queue = s.queue ∧
    (inNewBay s slot h d).channels = s.channels ∧ (inNewBay s slot h d).sent = s.sent ∧
    (∀ c, (inNewBay s slot h d).carriage c = s.carriage c) ∧
    (inNewBay s slot h d).stations = (s.occupyBay slot d).stations ∧
    ∀ i : Slot, (inNewBay s slot h d).hangers[i] = if i = slot then some (s.nextLeg h d) else s.hangers[i] := by
  obtain ⟨settings, sent, _⟩ := occupyBay_same s slot d
  have put := (s.occupyBay slot d).putHanger_settings slot (s.nextLeg h d)
  have written : ∀ i : Slot, ((s.occupyBay slot d).putHanger slot (s.nextLeg h d)).hangers[i] =
      if i = slot then some (s.nextLeg h d) else s.hangers[i] := fun i => by
    rw [State.putHanger_get, State.occupyBay_hangers]
  have carriage : ∀ c, ((s.occupyBay slot d).putHanger slot (s.nextLeg h d)).carriage c = s.carriage c := fun c =>
    (State.putHanger_carriage ..).trans (occupyBay_carriage ..)
  unfold inNewBay
  dsimp only
  split
  · exact ⟨put.trans settings, (putHanger_queue ..).trans (occupyBay_queue ..), (State.putHanger_channels ..).trans
      (occupyBay_channels ..), (putHanger_sent ..).trans sent, fun c => (mark_carriage ..).trans (carriage c),
      State.putHanger_stations .., written⟩
  · exact ⟨put.trans settings, (putHanger_queue ..).trans (occupyBay_queue ..), (State.putHanger_channels ..).trans
      (occupyBay_channels ..), (putHanger_sent ..).trans sent, carriage, State.putHanger_stations .., written⟩

/-- HANGER_DONE is set at the beginning of the unload leg (R51). -/
theorem inNewBay_done (next : (s.stepsOf h)[h.leg]? = none) : (inNewBay s slot h d).hasMark .hangerDone slot.val = true := by
  have finished : (s.nextLeg h d).state = .finished := by rw [nextLeg_unload s h d next]
  unfold inNewBay
  dsimp only
  rw [if_pos finished]
  exact hasMark_mark_self _ _ _

end

/-- The bath fields of a station in which a leg begins, as they were in `x`, which the charge then starts from. -/
theorem occupyBay_bath (s : State) (slot : Slot) (d : BayRef) : ∃ b o, (s.occupyBay slot d).stations[d.station] =
    { s.stations[d.station] with bays := b, phaseOrigin := o } :=
  ⟨_, _, (occupyBay_station s slot d d.station).trans (if_pos rfl)⟩

/-- What a charge makes of a bath (R82, R83). -/
theorem charged_cases (x : Station) (loss area : Nat) :
    ((x.charged loss).accumulated area).accumulator = (x.accumulator + area) % x.quantum ∧
    ((x.charged loss).accumulated area).pendingRuns = min 3 (x.pendingRuns + (x.accumulator + area) / x.quantum) ∧
    (512 + loss ≤ x.activity → ((x.charged loss).accumulated area).activity = x.activity - loss ∧
      ((x.charged loss).accumulated area).deficit = x.deficit) ∧
    (x.activity < 512 + loss → ((x.charged loss).accumulated area).activity = 512 ∧
      ((x.charged loss).accumulated area).deficit = min 65535 (x.deficit + (loss - (x.activity - 512)))) := by
  have floor : reachesFloor x loss = true ↔ x.activity < 512 + loss := decide_eq_true_iff
  unfold Station.charged Station.accumulated
  by_cases low : x.activity < 512 + loss
  · rw [if_pos (floor.2 low)]
    exact ⟨rfl, rfl, fun high => absurd low (not_lt.2 high), fun _ => ⟨rfl, rfl⟩⟩
  · rw [if_neg (mt floor.1 low)]
    exact ⟨rfl, rfl, fun _ => ⟨rfl, rfl⟩, fun low' => absurd low' low⟩

section

variable {s : State} {slot : Slot} {h : Hanger} {d : BayRef} (live : s.hangers[slot] = some h) (dest : h.destination = some d)
include live dest

theorem beginLeg_same : (s.beginLeg slot).settings = s.settings ∧ (s.beginLeg slot).queue = s.queue ∧
    (s.beginLeg slot).channels = s.channels ∧ (s.beginLeg slot).sent = s.sent ∧
    (∀ c, (s.beginLeg slot).carriage c = s.carriage c) ∧
    ∀ i : Slot, (s.beginLeg slot).hangers[i] = if i = slot then some (s.nextLeg h d) else s.hangers[i] := by
  rw [beginLeg_eq live dest]
  obtain ⟨settings, queue, table, channels, sent, carriage, _⟩ := chargeBath_same (inNewBay s slot h d) d.station h.area
  obtain ⟨settings', queue', channels', sent', carriage', _, table'⟩ := inNewBay_same (s := s) (slot := slot) (h := h) (d := d)
  exact ⟨settings.trans settings', queue.trans queue', channels.trans channels', sent.trans sent',
    fun c => (carriage c).trans (carriage' c), fun i => by rw [table]; exact table' i⟩

theorem beginLeg_bays : (s.beginLeg slot).bayAt d = { s.bayAt d with state := .occupied slot } ∧
    (∀ r, r ≠ d → (s.beginLeg slot).bayAt r = s.bayAt r) ∧
    (∀ st : StationNo, st ≠ d.station → (s.beginLeg slot).stations[st] = s.stations[st]) ∧
    (s.beginLeg slot).stations[d.station].phaseOrigin =
      if s.stations[d.station].anyOccupied then s.stations[d.station].phaseOrigin else s.beat := by
  obtain ⟨_, _, _, _, _, stations, _⟩ := inNewBay_same (s := s) (slot := slot) (h := h) (d := d)
  have bay : ∀ r, (s.beginLeg slot).bayAt r = (s.occupyBay slot d).bayAt r := fun r => by
    rw [beginLeg_eq live dest, State.bayAt, (chargeBath_tank _ _ _ _).1, stations]
    rfl
  refine ⟨(bay d).trans (occupyBay_bayAt s slot d), fun r other => (bay r).trans (occupyBay_bayAt_other s slot other),
    fun st other => ?_, ?_⟩
  · rw [beginLeg_eq live dest, chargeBath_station, if_neg fun here => other here.1, stations, occupyBay_station, if_neg other]
  · rw [beginLeg_eq live dest, (chargeBath_tank _ _ _ _).2, stations, occupyBay_station, if_pos rfl]

theorem beginLeg_done (next : (s.stepsOf h)[h.leg]? = none) : (s.beginLeg slot).hasMark .hangerDone slot.val = true := by
  rw [beginLeg_eq live dest]
  obtain ⟨_, _, _, _, _, _, marks⟩ := chargeBath_same (inNewBay s slot h d) d.station h.area
  exact marks _ _ (inNewBay_done next)

/-- Outside DEVELOP no bath is charged; a developer bath is charged from what it held (R82, R83). -/
theorem beginLeg_bath : let x := s.stations[d.station]
    let loss := (h.area * x.exhaust + 512) / 1024
    let y := (s.beginLeg slot).stations[d.station]
    (x.cls ≠ .develop → y.activity = x.activity ∧ y.deficit = x.deficit) ∧
    (x.cls = .develop →
      (512 + loss ≤ x.activity → y.activity = x.activity - loss ∧ y.deficit = x.deficit) ∧
      (x.activity < 512 + loss → y.activity = 512 ∧ y.deficit = min 65535 (x.deficit + (loss - (x.activity - 512))) ∧
        (s.beginLeg slot).hasMark .exhausted d.station.val = true) ∧
      y.accumulator = (x.accumulator + h.area) % x.quantum ∧
      y.pendingRuns = min 3 (x.pendingRuns + (x.accumulator + h.area) / x.quantum) ∧
      (3 < x.pendingRuns + (x.accumulator + h.area) / x.quantum →
        (s.beginLeg slot).hasMark .replenishBacklog d.station.val = true)) := by
  intro x loss y
  obtain ⟨_, _, _, _, _, stations, _⟩ := inNewBay_same (s := s) (slot := slot) (h := h) (d := d)
  obtain ⟨b, o, tank⟩ := occupyBay_bath s slot d
  rw [← stations] at tank
  have written := chargeBath_station (inNewBay s slot h d) d.station d.station h.area
  rw [← beginLeg_eq live dest, tank] at written
  refine ⟨fun other => ?_, fun develop => ?_⟩
  · rw [if_neg fun here => other here.2] at written
    exact ⟨(congrArg Station.activity written :), (congrArg Station.deficit written :)⟩
  · rw [if_pos ⟨rfl, develop⟩] at written
    obtain ⟨accumulator, pending, high, low⟩ := charged_cases { x with bays := b, phaseOrigin := o } loss h.area
    obtain ⟨exhausted, backlog⟩ := chargeBath_marks (inNewBay s slot h d) d.station h.area (by rw [tank]; exact develop)
    rw [← beginLeg_eq live dest, tank] at exhausted backlog
    have y_eq : y = (Station.charged { x with bays := b, phaseOrigin := o } loss).accumulated h.area := written
    rw [y_eq]
    refine ⟨high, fun short => ⟨(low short).1, (low short).2, exhausted (decide_eq_true short)⟩, accumulator, pending, fun more => ?_⟩
    exact backlog (decide_eq_true more)

end

/-! ### The report -/

/-- LOWERED of the order's bay begins the leg, ends the job and runs an arbitration (R123). -/
theorem lowered_eq {s : State} {c : CarriageId} {j : Job} (job : (s.carriage c).job = some j) : s.lowered c =
    ((s.beginLeg j.slot).setCarriage c (((s.beginLeg j.slot).carriage c).jobEnded j.destination.station)).arbitrate := by
  simp only [State.lowered, job]

/-- Settles O24: after the order is cleared, the leg begins as `beginLeg_same`, `beginLeg_bays` and `beginLeg_bath` say, and the carriage is
written last. -/
theorem loweredBeginsTheLeg : Obligations.LoweredBeginsTheLeg := by
  unfold Obligations.LoweredBeginsTheLeg
  intro s c j h d b u next base x loss sum job order live dest
  have byte : answersLowered (byte j.destination.bay.val) (.lower j.destination.bay) = true := by
    have back : (Machine.byte j.destination.bay.val).toNat = j.destination.bay.val := byte_toNat_of_lt (by omega)
    simp [answersLowered, back]
  have cleared : (u.clearOrder c).carriage c = { u.carriage c with order := none } := clearOrder_carriage u c
  have heard : exec (.lowered c (Machine.byte j.destination.bay.val)) s = .next ((u.clearOrder c).lowered c) :=
    congrArg Host.Outcome.next (report_answered order byte)
  rw [lowered_eq (by rw [cleared]; exact job)] at heard
  have beat : u.beat = s.beat := congrArg Settings.beat (heard_settings s c)
  generalize begun : u.clearOrder c = w at heard cleared
  have settings : w.settings = u.settings := by rw [← begun]; simp [State.clearOrder]
  have parts : w.queue = u.queue ∧ w.hangers = u.hangers ∧ w.channels = u.channels ∧ w.sent = u.sent ∧ w.stations = u.stations ∧
      w.carriage (otherCarriage c) = u.carriage (otherCarriage c) := by
    rw [← begun]
    simp [State.clearOrder]
  obtain ⟨queue, table, channels, sent, stations, other⟩ := parts
  have live' : w.hangers[j.slot] = some h := by rw [table]; exact live
  have banks : w.banks = u.banks := congrArg Settings.banks settings
  have steps : w.stepsOf h = u.stepsOf h := by simp only [State.stepsOf, banks]
  have wbeat : w.beat = s.beat := (congrArg Settings.beat settings).trans beat
  have bayAt : ∀ r, w.bayAt r = u.bayAt r := bayAt_congr stations
  obtain ⟨settings', queue', channels', sent', carriage', table'⟩ := beginLeg_same live' dest
  obtain ⟨bay, bays, others, origin⟩ := beginLeg_bays live' dest
  have bath := beginLeg_bath live' dest
  rw [stations] at others origin bath
  have record : (w.beginLeg j.slot).hangers[j.slot] = some (w.nextLeg h d) := by rw [table', if_pos rfl]
  refine ⟨_, heard, ?_, ?_, ?_, ?_, ?_, fun i apart => ?_, ?_, ?_, fun st apart => ?_, fun r apart => ?_, fun unload => ⟨?_, ?_⟩,
    fun k step kind => ?_, fun k step kind => ?_, ?_, ?_, fun develop _ => ?_⟩
  · exact (State.setCarriage_settings ..).trans (settings'.trans settings)
  · exact (State.setCarriage_queue ..).trans (queue'.trans queue)
  · exact (State.setCarriage_apart ..).trans ((carriage' _).trans other)
  · rw [State.setCarriage_same, carriage', cleared]
    rfl
  · rw [bayAt_congr (State.setCarriage_stations ..), bay, bayAt]
  · rw [State.setCarriage_hangers, table', if_neg apart, table]
  · exact (State.setCarriage_channels ..).trans (channels'.trans channels)
  · exact (State.setCarriage_sent ..).trans (sent'.trans sent)
  · rw [State.setCarriage_stations, others st apart]
  · rw [bayAt_congr (State.setCarriage_stations ..), bays r apart, bayAt]
  · rw [State.setCarriage_hangers, record, nextLeg_unload w h d (by rw [steps]; exact unload), onNextLeg, wbeat]
  · rw [setCarriage_hasMark]
    exact beginLeg_done live' dest (by rw [steps]; exact unload)
  · rw [State.setCarriage_hangers, record, nextLeg_exact w h d (by rw [steps]; exact step) kind, onNextLeg, wbeat]
  · rw [State.setCarriage_hangers, record, nextLeg_other w h d (by rw [steps]; exact step) kind, onNextLeg, wbeat]
  · rw [State.setCarriage_stations, origin, wbeat]
  · rw [State.setCarriage_stations]
    exact bath.1
  · rw [State.setCarriage_stations, setCarriage_hasMark, setCarriage_hasMark]
    exact bath.2 develop

end Sys2Proof.Machine.HangerTable
end

section
/-! The commands that name a slot (R38), a request lodged for a record just written (R94 to R97), and the signal to a carriage that waits
(R73, R74). -/

namespace Sys2Proof.Machine.HangerTable

open Sys2Proof.Machine.RecipeBanks

/-! ### A command that names a slot -/

section

variable {s : State} {body : Slot → Hanger → List Byte → Reply}

theorem withRecord_range {a : Byte} (rest : List Byte) (high : 48 ≤ a.toNat) : withRecord (a :: rest) s body = .refused .badForm 0 := by
  have none : slotOf a = none := finOf_eq_none.2 high
  simp only [withRecord, none]

theorem slotOf_byte (slot : Slot) : slotOf (byte slot.val) = some slot := finOf_byte (by decide) slot

theorem withRecord_vacant {slot : Slot} (rest : List Byte) (vacant : s.hangers[slot] = none) :
    withRecord (byte slot.val :: rest) s body = .refused .noRecord slot.val := by
  simp only [withRecord, slotOf_byte, vacant]

theorem withRecord_live {slot : Slot} {h : Hanger} (rest : List Byte) (live : s.hangers[slot] = some h) :
    withRecord (byte slot.val :: rest) s body = body slot h rest := by
  simp only [withRecord, slotOf_byte, live]

end

/-- The form tests of a command that names a slot: those of the slot come first, and then that of the length (R38). -/
theorem slotFormsRefused_of {code : Byte} {need : Nat} {c : List Byte → Instr} {body : State → Slot → Hanger → List Byte → Reply}
    (meaning : ∀ p s, exec (c p) s = .next (s.request code p fun t => withRecord p t (body t)))
    (length : ∀ t slot h (rest : List Byte), rest.length ≠ need → body t slot h rest = .refused .badForm 1) :
    slotFormsRefused code need c := by
  intro p s hears short t refuses
  have refused : ∀ {r n}, withRecord p t (body t) = .refused r n → refuses r n :=
    fun e => (meaning p s).trans (request_refused hears short e)
  refine ⟨fun none => ?_, fun a rest e high => ?_, fun slot rest e => ⟨fun vacant => ?_, fun some other => ?_⟩⟩
  · exact refused (by rw [none]; rfl)
  · exact refused (by rw [e, withRecord_range rest high])
  · exact refused (by rw [e, withRecord_vacant rest vacant])
  · obtain ⟨h, live⟩ := Option.isSome_iff_exists.1 some
    exact refused (by rw [e, withRecord_live rest live, length t slot h rest other])

/-! ### A request lodged for a record just written -/

section

variable {t : State} {slot : Slot} {g : Hanger} (cls : RequestClass) (b : Beat)

/-- A record without a place lodges no request. -/
theorem lodge_unplaced (live : t.hangers[slot] = some g) (nowhere : g.position = none) : t.lodge slot cls b = t := by
  simp only [State.lodge, live, nowhere]

/-- Of its own record a lodging writes the destination alone, and an arbitration in RUN may lift it (R95, R113, R119). -/
theorem lodge_record (live : t.hangers[slot] = some g) : ∃ e, (t.lodge slot cls b).hangers[slot] = some { g with destination := e } ∨
    t.lineState = .run ∧ (t.lodge slot cls b).hangers[slot] = some (t.liftedHanger { g with destination := e }) := by
  obtain place | ⟨src, place⟩ := Option.eq_none_or_eq_some g.position
  · rw [lodge_unplaced cls b live place]
    exact ⟨g.destination, .inl live⟩
  · rcases lodge_cases live place cls b with ⟨e, _, resolved⟩ | pending
    · have written : (resolvedAt t slot g cls b src e).hangers[slot] = some { g with destination := some e } := by
        rw [resolvedAt_get, if_pos rfl]
      have settings : (resolvedAt t slot g cls b src e).settings = t.settings := State.putHanger_settings ..
      refine ⟨some e, ?_⟩
      rw [resolved]
      by_cases run : t.lineState = .run
      · rcases (arbitrate_hauls _).record written with kept | moved
        · exact .inl kept
        · exact .inr ⟨run, by rw [moved, liftedHanger_of_settings settings]⟩
      · rw [arbitrate_idle (by rwa [resolvedAt_lineState])]
        exact .inl written
    · rw [pending, pendingAt_parts.1]
      exact ⟨g.destination, .inl live⟩

theorem lodge_settings : (t.lodge slot cls b).settings = t.settings :=
  (t.lodge_moves sameEntry_of_stay anyStation_of slot cls b).settings

/-- A lodging clears no mark. -/
theorem lodge_marks {k : Kind} {n : Nat} (marked : t.hasMark k n = true) : (t.lodge slot cls b).hasMark k n = true := by
  cases live : t.hangers[slot] with
  | none => simpa only [State.lodge, live] using marked
  | some g => cases place : g.position with
    | none => rwa [lodge_unplaced cls b live place]
    | some src =>
      rcases lodge_cases live place cls b with ⟨e, _, resolved⟩ | pending
      · rw [resolved]
        exact (arbitrate_hauls _).marks _ _ (putHanger_hasMark slot _ marked)
      · rw [pending, pendingAt]
        split
        · exact hasMark_mark _ _ (hasMark_mark _ _ marked)
        · exact hasMark_mark _ _ marked

/-- Outside RUN the request of a lodging stands in the queue (R94, R113). -/
theorem lodge_queued {src : BayRef} (live : t.hangers[slot] = some g) (place : g.position = some src) (idle : t.lineState ≠ .run) :
    ∃ q ∈ (t.lodge slot cls b).queue, q.slot = slot ∧ q.cls = cls ∧ q.deadline = b ∧ q.source = src := by
  rcases lodge_cases live place cls b with ⟨e, _, resolved⟩ | pending
  · rw [resolved, arbitrate_idle (by rwa [resolvedAt_lineState])]
    exact ⟨_, mem_insertRequest _ _, rfl, rfl, rfl, rfl⟩
  · rw [pending, pendingAt_parts.2.2.1]
    exact ⟨_, mem_insertRequest _ _, rfl, rfl, rfl, rfl⟩

variable (t slot g)

/-- What writing a record and lodging its request leave (R94 to R97, R113). -/
structure Lodged (u : State) : Prop where
  settings : u.settings = t.settings
  record : ∃ e, u.hangers[slot] = some { g with destination := e } ∨
    t.lineState = .run ∧ u.hangers[slot] = some (t.liftedHanger { g with destination := e })
  marks : ∀ k n, (t.putHanger slot g).hasMark k n = true → u.hasMark k n = true
  queued : t.lineState ≠ .run → ∀ r, g.position = some r → ∃ q ∈ u.queue, q.slot = slot ∧ q.cls = cls ∧ q.deadline = b ∧ q.source = r
  outside : t.lineState ≠ .run → u.channels = t.channels ∧ (∀ c, u.carriage c = t.carriage c) ∧
    ∀ i : Slot, i ≠ slot → u.hangers[i] = t.hangers[i]

theorem lodged_putHanger : Lodged t slot g cls b ((t.putHanger slot g).lodge slot cls b) := by
  have live : (t.putHanger slot g).hangers[slot] = some g := (State.putHanger_get ..).trans (if_pos rfl)
  have settings := t.putHanger_settings slot g
  have line : (t.putHanger slot g).lineState = t.lineState := congrArg Settings.lineState settings
  have others : ∀ i : Slot, i ≠ slot → (t.putHanger slot g).hangers[i] = t.hangers[i] := fun i other =>
    (State.putHanger_get ..).trans (if_neg other)
  refine ⟨(lodge_settings cls b).trans settings, ?_, fun k n => lodge_marks cls b, fun idle r place => ?_, fun idle => ?_⟩
  · obtain ⟨e, record⟩ := lodge_record cls b live
    rw [line, liftedHanger_of_settings settings] at record
    exact ⟨e, record⟩
  · exact lodge_queued cls b live place (by rwa [line])
  · cases place : g.position with
    | none =>
      rw [lodge_unplaced cls b live place]
      exact ⟨State.putHanger_channels .., State.putHanger_carriage t slot g, others⟩
    | some src =>
      obtain ⟨channels, carriages, same⟩ := lodge_outside (cls := cls) (b := b) live place (by rwa [line])
      exact ⟨channels.trans (State.putHanger_channels ..), fun c => (carriages c).trans (State.putHanger_carriage ..),
        fun i other => (same i other).trans (others i other)⟩

end

/-- A record lodged keeps all that neither a reservation nor a lift writes, and outside RUN its state (R50, R95). -/
theorem Lodged.stays {t : State} {slot : Slot} {g : Hanger} {cls : RequestClass} {b : Beat} {u : State} (m : Lodged t slot g cls b u) :
    ∃ h', u.hangers[slot] = some h' ∧ (h'.held = g.held ∧ h'.leg = g.leg ∧ h'.stepStart = g.stepStart) ∧
      (h'.push = g.push ∧ h'.area = g.area ∧ h'.target = g.target ∧ h'.dose = g.dose ∧ h'.fraction = g.fraction ∧
        h'.provisional = g.provisional) ∧ (t.lineState ≠ .run → h'.state = g.state) := by
  obtain ⟨e, kept | ⟨run, lifted⟩⟩ := m.record
  · exact ⟨_, kept, ⟨rfl, rfl, rfl⟩, ⟨rfl, rfl, rfl, rfl, rfl, rfl⟩, fun _ => rfl⟩
  · exact ⟨_, lifted, ⟨rfl, rfl, rfl⟩, ⟨rfl, rfl, rfl, rfl, rfl, rfl⟩, fun idle => absurd run idle⟩

/-! ### The signal -/

section

variable {s : State} {slot : Slot}

theorem signalCarriage_silent {c : CarriageId} (alone : ∀ j, (s.carriage c).job = some j → j.slot ≠ slot) : s.signalCarriage slot c = s := by
  refine if_neg fun ⟨_, ready⟩ => ?_
  unfold State.signalReady at ready
  split at ready
  · next j job => simp [alone j job] at ready
  · simp at ready

/-- Where no carriage has a job of the slot, no carriage is given the signal (R73). -/
theorem signal_silent (alone : ∀ c j, (s.carriage c).job = some j → j.slot ≠ slot) : s.signal slot = s := by
  rw [State.signal, signalCarriage_silent (alone .one), signalCarriage_silent (alone .two)]

theorem signalCarriage_other (c : CarriageId) :
    (s.signalCarriage slot c).carriage (otherCarriage c) = s.carriage (otherCarriage c) := by
  unfold State.signalCarriage
  split
  · cases job : (s.carriage c).job with
    | none => simp only [State.liftOrder, job]
    | some j => exact liftOrder_other job
  · rfl

variable {c : CarriageId} {j : Job} {h : Hanger} {tg : Nat}

/-- A carriage that waits over a record at its target lifts it at the signal, unless the line is STOPPED (R73, R74, R154). -/
theorem signalCarriage_lifts (goes : s.lineState ≠ .stopped) (waits : (s.carriage c).state = .awaitLift)
    (job : (s.carriage c).job = some j) (same : j.slot = slot) (reached : s.doseReached slot = true) :
    s.signalCarriage slot c = s.liftOrder c := by
  refine if_pos ⟨goes, ?_⟩
  simp [State.signalReady, waits, job, same, reached]

theorem signalCarriage_channels (s : State) (slot : Slot) (c : CarriageId) (ch : ChannelNo) :
    (s.signalCarriage slot c).channels[ch] = s.channels[ch] ∨
      (s.signalCarriage slot c).channels[ch] = { s.channels[ch] with staged := false, latch := false } := by
  unfold State.signalCarriage
  split
  · exact (s.liftOrder_moves sameEntry_of_stay c (S := anyStation)).channel_of ch
  · exact .inl rfl

/-- The signal has a carriage that waits over a record at its target send LIFT (R74 to R76). -/
theorem signal_sendsLift (goes : s.lineState ≠ .stopped) (waits : (s.carriage c).state = .awaitLift)
    (job : (s.carriage c).job = some j) (same : j.slot = slot) (live : s.hangers[slot] = some h) (target : h.target = some tg)
    (reached : tg ≤ h.dose) : State.sendsLift c j h s (s.signal slot) := by
  have dose : s.doseReached slot = true := by simpa [doseReached_iff live target] using reached
  subst same
  unfold State.signal
  cases c with
  | one =>
    rw [signalCarriage_lifts (c := .one) goes waits job rfl dose]
    exact sendsLift_of_hauls (.refl (slots := fun _ => True) s) job live (signalCarriage_hauls _ j.slot .two)
      (signalCarriage_other (c := .two)) (signalCarriage_channels _ _ _)
  | two =>
    have first := signalCarriage_hauls s j.slot .one
    have here : (s.signalCarriage j.slot .one).carriage .two = s.carriage .two := signalCarriage_other (c := .one)
    have goes' : (s.signalCarriage j.slot .one).lineState ≠ .stopped := by
      have line : (s.signalCarriage j.slot .one).lineState = s.lineState := congrArg Settings.lineState first.settings
      rwa [line]
    have dose' : (s.signalCarriage j.slot .one).doseReached j.slot = true := by
      simpa [first.doseReached live target] using reached
    rw [signalCarriage_lifts (c := .two) goes' (by rwa [here]) (by rw [here]; exact job) rfl dose']
    exact sendsLift_of_hauls first (by rw [here]; exact job) live (.refl (slots := fun _ => True) _) rfl fun _ => .inl rfl

end

end Sys2Proof.Machine.HangerTable
end

section
/-! RELEASE (R38, R45). -/

namespace Sys2Proof.Machine.HangerTable

open Sys2Proof.Machine.RecipeBanks

section

variable {t : State} {slot : Slot} {h : Hanger}

/-! ### The rule of RELEASE -/

theorem releaseBody_live (live : t.hangers[slot] = some h) : releaseBody [byte slot.val] t =
    if h.held then .accepted (t.release slot h) (t.releaseDetail h) [] else .accepted t 1 [] := by
  rw [releaseBody, withRecord_live [] live, if_neg (by simp)]

theorem release_admitted (state : h.state = .admitted) : t.releaseDetail h = 0 ∧
    t.release slot h = (t.putHanger slot { h with held := false }).lodge slot .launch t.beat :=
  ⟨if_pos state, if_pos state⟩

/-- The record is held over its minimum on an OPEN leg (R45). -/
def Ripe (t : State) (h : Hanger) (k : Step) : Prop :=
  h.state = .immersed ∧ t.legStep h = some k ∧ k.kind = .openEnded ∧ (k.time * 8 : Nat) ≤ beatDiff t.beat h.stepStart

theorem overdueStep_ripe {k : Step} (ripe : Ripe t h k) : t.overdueStep h = some k := by
  obtain ⟨state, step, kind, reached⟩ := ripe
  simp only [State.overdueStep, step]
  exact if_pos ⟨state, kind, decide_eq_true reached⟩

theorem overdueStep_unripe (unripe : ∀ k, ¬Ripe t h k) : t.overdueStep h = none := by
  unfold State.overdueStep
  split
  · rfl
  · next k step => exact if_neg fun ⟨state, kind, reached⟩ => unripe k ⟨state, step, kind, of_decide_eq_true reached⟩

theorem release_ripe {k : Step} (ripe : Ripe t h k) : t.releaseDetail h = 2 ∧ t.release slot h =
    (t.putHanger slot { h with held := false, state := .due }).lodge slot .openEnded (beatPlus h.stepStart (k.time * 8)) := by
  have other : h.state ≠ .admitted := by rw [ripe.1]; decide
  have deadline : minimumDeadline h.stepStart k = beatPlus h.stepStart (k.time * 8) := by
    rw [minimumDeadline, if_neg (by rw [ripe.2.2.1]; decide), Nat.add_zero]
  simp only [State.releaseDetail, State.release, other, if_false, overdueStep_ripe ripe, deadline, true_and]

theorem release_unripe (other : h.state ≠ .admitted) (unripe : ∀ k, ¬Ripe t h k) :
    t.releaseDetail h = 0 ∧ t.release slot h = t.putHanger slot { h with held := false } := by
  simp only [State.releaseDetail, State.release, other, if_false, overdueStep_unripe unripe, and_self]

/-- A record let go is marked (R37). -/
theorem released_changes {g : Hanger} (held : h.held = true) (free : g.held = false) : recordChanges h g = true := by
  simp [recordChanges, held, free]

/-- What RELEASE leaves of a held record whose request it lodges (R45). -/
theorem released_lodged {g : Hanger} {cls : RequestClass} {b : Beat} {u : State} {st : HangerState}
    (live : t.hangers[slot] = some h) (held : h.held = true) (free : g.held = false) (st_eq : g.state = st)
    (same : g.leg = h.leg ∧ g.stepStart = h.stepStart ∧ g.position = h.position) (m : Lodged t slot g cls b u) :
    ∃ h', u.settings = t.settings ∧ u.hangers[slot] = some h' ∧ h'.held = false ∧ h'.leg = h.leg ∧
      h'.stepStart = h.stepStart ∧ (t.lineState ≠ .run → h'.state = st) ∧ u.hasMark .recordChanged slot.val = true ∧
      (t.lineState ≠ .run → u.channels = t.channels ∧ (∀ c, u.carriage c = t.carriage c) ∧
        ∀ i : Slot, i ≠ slot → u.hangers[i] = t.hangers[i]) ∧
      (t.lineState ≠ .run → ∀ r, h.position = some r → ∃ q ∈ u.queue, q.slot = slot ∧ q.cls = cls ∧ q.deadline = b ∧ q.source = r) := by
  obtain ⟨leg, start, place⟩ := same
  obtain ⟨h', record, ⟨held', leg', start'⟩, _, state⟩ := m.stays
  exact ⟨h', m.settings, record, held'.trans free, leg'.trans leg, start'.trans start,
    fun idle => (state idle).trans st_eq,
    m.marks _ _ (putHanger_hasMark_changed live (released_changes held free)), m.outside, fun idle r p => m.queued idle r (place.trans p)⟩

end

/-- Settles O50: each case of the rule on the state of the take, with `lodged_putHanger` where a request is lodged. -/
theorem releaseLetsTheHangerGo : Obligations.ReleaseLetsTheHangerGo := by
  unfold Obligations.ReleaseLetsTheHangerGo
  refine ⟨fun m => slotFormsRefused_of (fun _ _ => rfl) fun t slot h rest long => if_pos fun e => long (by rw [e]; rfl), ?_⟩
  intro m slot h s hears live t ripe lodged alone
  have body := releaseBody_live (t := t) live
  have short : [byte slot.val].length ≤ 64 := by simp
  have accepted : ∀ {u n data}, releaseBody [byte slot.val] t = .accepted u n data →
      exec (.release m [byte slot.val]) s = .next (s.okay 0x23 n data u) := request_accepted hears short
  refine ⟨fun free => accepted (body.trans (if_neg (by simp [free]))), fun held state => ?_, fun k held isRipe => ?_,
    fun held other unripe => ?_⟩
  · obtain ⟨detail, effect⟩ := release_admitted (t := t) (slot := slot) state
    rw [if_pos held, detail, effect] at body
    obtain ⟨h', left⟩ := released_lodged (g := { h with held := false }) live held rfl state ⟨rfl, rfl, rfl⟩
      (lodged_putHanger t slot _ .launch t.beat)
    exact ⟨_, h', accepted body, left⟩
  · obtain ⟨detail, effect⟩ := release_ripe (slot := slot) isRipe
    rw [if_pos held, detail, effect] at body
    obtain ⟨h', left⟩ := released_lodged (g := { h with held := false, state := .due }) live held rfl rfl ⟨rfl, rfl, rfl⟩
      (lodged_putHanger t slot _ .openEnded _)
    exact ⟨_, h', accepted body, left⟩
  · obtain ⟨detail, effect⟩ := release_unripe (slot := slot) other unripe
    rw [if_pos held, detail, effect] at body
    refine (accepted body).trans ?_
    simp only [State.putHanger, show t.hangers[slot] = some h from live, released_changes held (g := { h with held := false }) rfl, if_true]
    rfl

end Sys2Proof.Machine.HangerTable
end

section
/-! AMEND (R38, R46, R47). -/

namespace Sys2Proof.Machine.HangerTable

open Sys2Proof.Machine.RecipeBanks

section

variable {t : State} {slot : Slot} {h : Hanger} {change p1 p0 a1 a0 : Byte}

/-! ### The rule of AMEND -/

/-- What the rule makes of a record and a payload of the right length (R46). -/
theorem amendBody_live (live : t.hangers[slot] = some h) : amendBody [byte slot.val, change, p1, p0, a1, a0] t =
    if change.toNat % 4 = 0 then .refused .badForm 2
    else if h.state = .finished ∨ h.state = .faulted then .refused .wrongState h.state.code
    else .accepted (t.amend slot h change (signed16 p1 p0) (num16 a1 a0)) 0
      ((t.amend slot h change (signed16 p1 p0) (num16 a1 a0)).amendData slot) := by
  rw [amendBody, withRecord_live _ live]

theorem developing_iff : t.developing h = true ↔ (h.state = .immersed ∨ h.state = .due) ∧ t.legKind h = some .exactDose := by
  simp [State.developing]

variable {push : Int} {area : Nat}

/-- Push and area written, clamped, where the record does not develop or the push stays (R46). -/
theorem amend_plain (live : t.hangers[slot] = some h) (plain : ¬(change.toNat.testBit 0 = true ∧ t.developing h = true)) :
    t.amend slot h change push area = { t with hangers := t.hangers.set slot.val (some (h.amended change push area)) } := by
  have written : t.putHanger slot (h.amended change push area) = _ :=
    putHanger_of_unchanged live (by simp [recordChanges, Hanger.amended])
  rw [← written]
  unfold State.amend
  dsimp only
  split
  · exact if_neg plain
  · rfl

theorem amend_retargets {k : Step} (bit : change.toNat.testBit 0 = true) (develops : t.developing h = true)
    (step : t.legStep h = some k) : t.amend slot h change push area = t.retarget slot (h.amended change push area) k := by
  simp only [State.amend, step]
  exact if_pos ⟨bit, develops⟩

theorem amendData_live {g : Hanger} (live : t.hangers[slot] = some g) :
    t.amendData slot = beSigned16 g.push ++ be16 g.area ++ be24 (g.target.getD 0) := by
  simp only [State.amendData, live]
  rfl

end

/-! ### A new target -/

section

variable {t : State} {slot : Slot} {h g : Hanger} {k : Step} {tg : Nat}

/-- The record given its new target. -/
def withTarget (g : Hanger) (tg : Nat) : Hanger := { g with target := some tg }

theorem retarget_above (target : targetDose k.time g.push = tg) (immersed : g.state = .immersed) (above : tg ≤ g.dose) :
    t.retarget slot g k = (t.putHanger slot { withTarget g tg with state := .due }).lodge slot .exactDose t.beat := by
  subst target
  exact if_pos ⟨immersed, above⟩

theorem retarget_else (live : t.hangers[slot] = some h) (unchanged : recordChanges h g = false)
    (target : targetDose k.time g.push = tg) (other : ¬(g.state = .immersed ∧ tg ≤ g.dose)) :
    t.retarget slot g k = ({ t with hangers := t.hangers.set slot.val (some (withTarget g tg)) } : State).signal slot := by
  subst target
  have written := putHanger_of_unchanged (h := withTarget g (targetDose k.time g.push)) live unchanged
  exact (if_neg other).trans (congrArg (State.signal slot) written)

/-- The effects of a push amended while the record develops (R47, R74 to R76). -/
theorem retarget_effects (live : t.hangers[slot] = some h) (unchanged : recordChanges h g = false)
    (target : targetDose k.time g.push = tg) : (t.retarget slot g k).settings = t.settings ∧
    ∃ h', (t.retarget slot g k).hangers[slot] = some h' ∧ h'.push = g.push ∧ h'.area = g.area ∧ h'.target = some tg ∧
      h'.dose = g.dose ∧ h'.fraction = g.fraction ∧ h'.provisional = g.provisional ∧
      (g.state = .immersed → g.dose < tg → (∀ c j, (t.carriage c).job = some j → j.slot ≠ slot) →
        h'.state = .immersed ∧ (t.retarget slot g k).queue = t.queue) ∧
      (g.state = .immersed → tg ≤ g.dose → t.lineState ≠ .run → h'.state = .due ∧ ∀ r, g.position = some r →
        ∃ q ∈ (t.retarget slot g k).queue, q.slot = slot ∧ q.cls = .exactDose ∧ q.deadline = t.beat ∧ q.source = r) ∧
      (∀ c j, g.state = .due → t.lineState ≠ .stopped → tg ≤ g.dose → (t.carriage c).state = .awaitLift →
        (t.carriage c).job = some j → j.slot = slot → State.sendsLift c j (withTarget g tg) t (t.retarget slot g k)) := by
  by_cases above : g.state = .immersed ∧ tg ≤ g.dose
  · obtain ⟨immersed, above⟩ := above
    have m := lodged_putHanger t slot { withTarget g tg with state := .due } .exactDose t.beat
    obtain ⟨h', record, _, ⟨push, area, target', dose, fraction, provisional⟩, state⟩ := m.stays
    rw [retarget_above target immersed above]
    refine ⟨m.settings, h', record, push, area, target', dose, fraction, provisional, fun _ below => ?_, fun _ _ idle => ?_,
      fun c j due => ?_⟩
    · exact absurd above (not_le.2 below)
    · exact ⟨state idle, m.queued idle⟩
    · rw [immersed] at due
      cases due
  · rw [retarget_else live unchanged target above]
    generalize written : ({ t with hangers := t.hangers.set slot.val (some (withTarget g tg)) } : State) = v
    have here : v.hangers[slot] = some (withTarget g tg) := by
      rw [← written]
      exact (vector_get_set ..).trans (if_pos rfl)
    have settings : v.settings = t.settings := by rw [← written]; rfl
    have carriages : ∀ c, v.carriage c = t.carriage c := by rw [← written]; exact fun c => by cases c <;> rfl
    have hauls := signal_hauls v slot
    have kept : ∃ h', (v.signal slot).hangers[slot] = some h' ∧ (h' = withTarget g tg ∨ h' = v.liftedHanger (withTarget g tg)) :=
      (hauls.record here).elim (fun e => ⟨_, e, .inl rfl⟩) fun e => ⟨_, e, .inr rfl⟩
    obtain ⟨h', record, same⟩ := kept
    have fields : h'.push = g.push ∧ h'.area = g.area ∧ h'.target = some tg ∧ h'.dose = g.dose ∧ h'.fraction = g.fraction ∧
        h'.provisional = g.provisional := by
      rcases same with rfl | rfl <;> exact ⟨rfl, rfl, rfl, rfl, rfl, rfl⟩
    obtain ⟨push, area, target', dose, fraction, provisional⟩ := fields
    refine ⟨hauls.settings.trans settings, h', record, push, area, target', dose, fraction, provisional, fun immersed _ alone => ?_,
      fun immersed above' => ?_, fun c j due goes reached waits job slot_eq => ?_⟩
    · have silent : v.signal slot = v := signal_silent fun c j job => alone c j (by rwa [carriages] at job)
      rw [silent] at record ⊢
      cases here.symm.trans record
      exact ⟨immersed, by rw [← written]⟩
    · exact absurd ⟨immersed, above'⟩ above
    · have goes' : v.lineState ≠ .stopped := by rwa [show v.lineState = t.lineState from congrArg Settings.lineState settings]
      have sends : State.sendsLift c j (withTarget g tg) v (v.signal slot) :=
        signal_sendsLift goes' (by rwa [carriages]) (by rwa [carriages]) slot_eq here rfl reached
      rw [← written] at sends ⊢
      exact sends

end

/-- Settles O51: the tests of AMEND in their order on the state of the take, and the effects of `retarget_effects`. -/
theorem amendWritesPushAndArea : Obligations.AmendWritesPushAndArea := by
  unfold Obligations.AmendWritesPushAndArea
  refine ⟨fun m => slotFormsRefused_of (fun _ _ => rfl) fun t slot h rest long => ?_, ?_⟩
  · dsimp only
    split
    · exact absurd rfl long
    · rfl
  intro m change p1 p0 a1 a0 slot h s hears live t g frame develops dataOf
  have body : amendBody frame t = _ := amendBody_live live
  have short : frame.length ≤ 64 := by simp [frame]
  have refused : ∀ {r n}, amendBody frame t = .refused r n → exec (.amend m frame) s = .next (s.refusedAs 0x24 9 r n) :=
    request_refused hears short
  have accepted : ∀ {u n data}, amendBody frame t = .accepted u n data → exec (.amend m frame) s = .next (s.okay 0x24 n data u) :=
    request_accepted hears short
  refine ⟨fun nothing => refused (body.trans (if_pos nothing)), fun some ended => ?_, fun some unfinished sound plain => ?_, ?_⟩
  · rw [if_neg some, if_pos ended] at body
    exact refused body
  · rw [if_neg some, if_neg (not_or.2 ⟨unfinished, sound⟩), amend_plain live (by rwa [developing_iff]),
      amendData_live (g := g) ((vector_get_set ..).trans (if_pos rfl))] at body
    exact accepted body
  · intro k bit develops' step target
    have some : change.toNat % 4 ≠ 0 := fun e => by
      have even : change.toNat % 2 = 0 := by omega
      rw [Nat.testBit_zero, even] at bit
      exact absurd bit (by decide)
    have unfinished : ¬(h.state = .finished ∨ h.state = .faulted) := by
      rcases develops'.1 with e | e <;> rw [e] <;> decide
    rw [if_neg some, if_neg unfinished, amend_retargets bit (developing_iff.2 develops') step] at body
    obtain ⟨settings, h', record, push, area, target', effects⟩ := retarget_effects (g := g) (k := k) (tg := target) live
      (by simp [recordChanges, g]) (targetDose_eq _ _)
    refine ⟨_, h', accepted (body.trans ?_), settings, record, push, area, target', effects⟩
    have data := amendData_live record
    rw [push, area, target'] at data
    exact congrArg _ data

end Sys2Proof.Machine.HangerTable
end

section
/-! SET DOSE (R38, R77, R78). -/

namespace Sys2Proof.Machine.HangerTable

open Sys2Proof.Machine.RecipeBanks

section

variable {t : State} {slot : Slot} {h : Hanger} {a b c : Byte}

/-! ### The rule of SET DOSE -/

theorem setDoseBody_live (live : t.hangers[slot] = some h) : setDoseBody [byte slot.val, a, b, c] t =
    if h.state ≠ .immersed ∧ h.state ≠ .due then .refused .wrongState h.state.code
    else if t.legKind h ≠ some .exactDose then .refused .wrongStepKind h.leg
    else .accepted (t.setDose slot (h.withDose (num24 a b c))) (t.doseDetail slot (h.withDose (num24 a b c)))
      ((t.setDose slot (h.withDose (num24 a b c))).doseData slot) := by
  rw [setDoseBody, withRecord_live _ live]

theorem setDoseBody_taken (live : t.hangers[slot] = some h) (state : h.state = .immersed ∨ h.state = .due)
    (kind : t.legKind h = some .exactDose) : setDoseBody [byte slot.val, a, b, c] t =
      .accepted (t.setDose slot (h.withDose (num24 a b c))) (t.doseDetail slot (h.withDose (num24 a b c)))
        ((t.setDose slot (h.withDose (num24 a b c))).doseData slot) := by
  rw [setDoseBody_live live, if_neg fun ⟨dry, early⟩ => state.elim dry early, if_neg (not_not.2 kind)]

theorem doseData_live {g : Hanger} {tg : Nat} (live : t.hangers[slot] = some g) (target : g.target = some tg) :
    t.doseData slot = be24 g.dose ++ be24 tg ++ [byte g.state.code] := by
  simp only [State.doseData, live, target]
  rfl

theorem awaited_iff : t.awaited slot = true ↔
    ∃ c j, (t.carriage c).state = .awaitLift ∧ (t.carriage c).job = some j ∧ j.slot = slot := by
  have waits : ∀ x : Carriage, (x.state == .awaitLift && match x.job with | some j => j.slot == slot | none => false) = true ↔
      ∃ j, x.state = .awaitLift ∧ x.job = some j ∧ j.slot = slot := by
    intro x
    cases x.job <;> simp
  unfold State.awaited
  rw [List.any_eq_true]
  constructor
  · rintro ⟨c, _, ready⟩
    exact ⟨c, (waits _).1 ready⟩
  · rintro ⟨c, ready⟩
    exact ⟨c, by cases c <;> simp [bothCarriages], (waits _).2 ready⟩

/-! ### The effects -/

variable {g : Hanger} {tg : Nat}

theorem atTarget_iff (target : g.target = some tg) : g.atTarget = true ↔ tg ≤ g.dose := by
  simp [Hanger.atTarget, target]

theorem setDose_above (immersed : g.state = .immersed) (above : g.atTarget = true) : t.doseDetail slot g = 1 ∧
    t.setDose slot g = (t.putHanger slot { g with state := .due }).lodge slot .exactDose t.beat :=
  ⟨by simp [State.doseDetail, above, immersed], if_pos ⟨immersed, above⟩⟩

theorem setDose_else (live : t.hangers[slot] = some h) (unchanged : recordChanges h g = false)
    (other : ¬(g.state = .immersed ∧ g.atTarget = true)) :
    t.setDose slot g = ({ t with hangers := t.hangers.set slot.val (some g) } : State).signal slot :=
  (if_neg other).trans (congrArg (State.signal slot) (putHanger_of_unchanged live unchanged))

theorem doseDetail_alone (alone : ∀ c j, (t.carriage c).job = some j → j.slot ≠ slot)
    (other : ¬(g.state = .immersed ∧ g.atTarget = true)) : t.doseDetail slot g = 0 := by
  have unawaited : t.awaited slot ≠ true := fun ready => by
    obtain ⟨c, j, _, job, same⟩ := awaited_iff.1 ready
    exact alone c j job same
  unfold State.doseDetail
  rw [if_neg unawaited]
  split
  · next above => exact if_neg fun immersed => other ⟨immersed, above⟩
  · rfl

end

/-- A record whose dose stands below its target, or that is DUE with no carriage waiting, is written and nothing else (R78). -/
theorem setDose_alone {t : State} {slot : Slot} {h g : Hanger} (live : t.hangers[slot] = some h) (unchanged : recordChanges h g = false)
    (alone : ∀ c j, (t.carriage c).job = some j → j.slot ≠ slot) (other : ¬(g.state = .immersed ∧ g.atTarget = true)) :
    t.setDose slot g = { t with hangers := t.hangers.set slot.val (some g) } := by
  rw [setDose_else live unchanged other]
  refine signal_silent fun c j job => alone c j ?_
  cases c <;> exact job

/-- A carriage that waits over a DUE record at its target lifts it (R74 to R76, R78). -/
theorem setDose_lifts {t : State} {slot : Slot} {h g : Hanger} {tg : Nat} {c : CarriageId} {j : Job} (live : t.hangers[slot] = some h)
    (unchanged : recordChanges h g = false) (due : g.state = .due) (target : g.target = some tg) (reached : tg ≤ g.dose)
    (goes : t.lineState ≠ .stopped) (waits : (t.carriage c).state = .awaitLift) (job : (t.carriage c).job = some j) (same : j.slot = slot) :
    t.doseDetail slot g = 2 ∧ (t.setDose slot g).settings = t.settings ∧ State.sendsLift c j g t (t.setDose slot g) := by
  have dry : g.state ≠ .immersed := by rw [due]; decide
  have here : ({ t with hangers := t.hangers.set slot.val (some g) } : State).hangers[slot] = some g :=
    (vector_get_set ..).trans (if_pos rfl)
  have carriage : ∀ c, ({ t with hangers := t.hangers.set slot.val (some g) } : State).carriage c = t.carriage c := fun c => by
    cases c <;> rfl
  refine ⟨?_, ?_, ?_⟩
  · simp [State.doseDetail, (atTarget_iff target).2 reached, due, awaited_iff.2 ⟨c, j, waits, job, same⟩]
  · rw [setDose_else live unchanged fun e => dry e.1]
    exact (signal_hauls _ slot).settings
  · rw [setDose_else live unchanged fun e => dry e.1]
    exact signal_sendsLift goes (by rwa [carriage]) (by rwa [carriage]) same here target reached

/-- Settles O52: the tests of SET DOSE in their order on the state of the take, then each of its effects. -/
theorem doseIsSetByHand : Obligations.DoseIsSetByHand := by
  unfold Obligations.DoseIsSetByHand
  refine ⟨fun m => slotFormsRefused_of (fun _ _ => rfl) fun t slot h rest long => ?_, ?_⟩
  · dsimp only
    split
    · exact absurd rfl long
    · rfl
  intro m a b c slot h s hears live t dose g frame alone
  have short : frame.length ≤ 64 := by simp [frame]
  have refused : ∀ {r n}, setDoseBody frame t = .refused r n → exec (.setDose m frame) s = .next (s.refusedAs 0x25 7 r n) :=
    request_refused hears short
  have accepted : ∀ {u n data}, setDoseBody frame t = .accepted u n data → exec (.setDose m frame) s = .next (s.okay 0x25 n data u) :=
    request_accepted hears short
  have taken : h.state = .immersed ∨ h.state = .due → t.legKind h = some .exactDose → setDoseBody frame t =
      .accepted (t.setDose slot g) (t.doseDetail slot g) ((t.setDose slot g).doseData slot) := setDoseBody_taken live
  have unchanged : recordChanges h g = false := by simp [recordChanges, g]
  refine ⟨fun dry early => refused ((setDoseBody_live live).trans (if_pos ⟨dry, early⟩)), fun state kind => ?_,
    fun target target_eq => ⟨fun state kind lone below => ?_, fun immersed kind above => ?_,
      fun k j due kind above goes waits job same => ?_⟩⟩
  · have body := setDoseBody_live (a := a) (b := b) (c := c) live
    rw [if_neg fun e => state.elim e.1 e.2, if_pos kind] at body
    exact refused body
  · have other : ¬(g.state = .immersed ∧ g.atTarget = true) := fun ⟨immersed, above⟩ => by
      rcases below with low | due
      · exact absurd ((atTarget_iff (g := g) target_eq).1 above) (not_le.2 low)
      · exact absurd (due.symm.trans immersed) (by decide)
    have body := taken state kind
    rw [setDose_alone live unchanged lone other, doseDetail_alone lone other,
      doseData_live (g := g) ((vector_get_set ..).trans (if_pos rfl)) target_eq] at body
    exact accepted body
  · obtain ⟨detail, effect⟩ := setDose_above (t := t) (slot := slot) (g := g) immersed ((atTarget_iff (g := g) target_eq).2 above)
    have m' := lodged_putHanger t slot { g with state := .due } .exactDose t.beat
    obtain ⟨h', record, _, ⟨_, _, target', dose', fraction, provisional⟩, state⟩ := m'.stays
    have body := taken (.inl immersed) kind
    rw [effect, detail, doseData_live record (target'.trans target_eq), dose'] at body
    exact ⟨_, h', accepted body, m'.settings, record, dose', fraction, provisional, target'.trans target_eq,
      fun idle => ⟨state idle, m'.queued idle⟩⟩
  · obtain ⟨detail, settings, sends⟩ := setDose_lifts (g := g) live unchanged due target_eq above goes waits job same
    have body := taken (.inr due) kind
    obtain ⟨_, _, _, _, ⟨record, _⟩, _⟩ := id sends
    subst same
    rw [detail, doseData_live record target_eq] at body
    exact ⟨_, accepted body, settings, sends⟩

end Sys2Proof.Machine.HangerTable
end

section
/-! FIND by tag, FIND MATCHING and READ RECORDS (R55, R56, R166, R168). -/

namespace Sys2Proof.Machine.HangerTable

open Sys2Proof.Machine.RecipeBanks

/-! ### The filter of FIND MATCHING -/

/-- The bits 1 to 6 of a state set are clear where nothing is left of it without the others (log 18). -/
theorem noStates_iff (set : Nat) : set % 128 / 2 = 0 ↔ ∀ n, 1 ≤ n → n ≤ 6 → set.testBit n = false := by
  have bits : ∀ i, (set % 2 ^ 7 / 2 ^ 1).testBit i = (decide (i + 1 < 7) && set.testBit (i + 1)) := fun i => by
    rw [Nat.testBit_div_two_pow, Nat.testBit_mod_two_pow]
  constructor
  · intro none n low high
    have bit := bits (n - 1)
    rw [show set % 2 ^ 7 / 2 ^ 1 = 0 from none, Nat.sub_add_cancel low, decide_eq_true (show n < 7 by omega), Bool.true_and] at bit
    rw [← bit, Nat.zero_testBit]
  · intro clear
    refine Nat.eq_of_testBit_eq fun i => ?_
    rw [Nat.zero_testBit]
    refine (bits i).trans ?_
    by_cases small : i + 1 < 7
    · rw [clear (i + 1) (by omega) (by omega), Bool.and_false]
    · rw [decide_eq_false small, Bool.false_and]

theorem matchesStates_iff (set : Nat) (h : Hanger) : matchesStates set h = true ↔
    (∀ n, 1 ≤ n → n ≤ 6 → set.testBit n = false) ∨ set.testBit h.state.code = true := by
  rw [matchesStates, Bool.or_eq_true, beq_iff_eq, noStates_iff]

theorem matchesStation_iff (st : Byte) (h : Hanger) : matchesStation st h = true ↔
    st = 0xFF ∨ ∃ r, h.position = some r ∧ r.station.val = st.toNat := by
  rw [matchesStation, Bool.or_eq_true, beq_iff_eq]
  cases h.position <;> simp

theorem matchesMarks_iff (set : Nat) (slot : Slot) (s : State) : s.matchesMarks set slot = true ↔
    (∀ k ∈ hangerKinds, set.testBit k.number.val = false) ∨
      ∃ k ∈ hangerKinds, set.testBit k.number.val = true ∧ s.hasMark k slot.val = true := by
  simp only [State.matchesMarks, Bool.or_eq_true, List.all_eq_true, List.any_eq_true, Bool.not_eq_true', Bool.and_eq_true]

theorem mem_matching (states st bank : Byte) (marks : Nat) (s : State) (i : Slot) : i ∈ s.matching states st bank marks ↔
    ∃ h, s.hangers[i] = some h ∧
      ((∀ n, 1 ≤ n → n ≤ 6 → states.toNat.testBit n = false) ∨ states.toNat.testBit h.state.code = true) ∧
      (st = 0xFF ∨ ∃ r, h.position = some r ∧ r.station.val = st.toNat) ∧
      (bank = 0xFF ∨ h.bank.val = bank.toNat) ∧
      ((∀ k ∈ hangerKinds, marks.testBit k.number.val = false) ∨
        ∃ k ∈ hangerKinds, marks.testBit k.number.val = true ∧ s.hasMark k i.val = true) := by
  rw [State.matching, List.mem_filter]
  cases s.hangers[i] with
  | none => simp
  | some h =>
    simp only [Bool.and_eq_true, matchesStates_iff, matchesStation_iff, matchesMarks_iff, Bool.or_eq_true, beq_iff_eq, and_assoc,
      Option.some.injEq, exists_eq_left']
    exact and_iff_right (List.mem_finRange i)

theorem matching_sorted (states st bank : Byte) (marks : Nat) (s : State) : (s.matching states st bank marks).Pairwise (· < ·) :=
  (List.pairwise_lt_finRange 48).filter _

/-! ### The rules of FIND and FIND MATCHING -/

section

variable {a b states st bank m1 m0 : Byte} {p : List Byte} {s : State}

theorem findBody_form (h : p.length ≠ 2) : findBody p s = .refused .badForm 0 := by
  unfold findBody
  split
  · exact absurd rfl h
  · rfl

theorem findBody_range (h : num16 a b = 0 ∨ 4095 < num16 a b) : findBody [a, b] s = .refused .badForm 0 := if_pos h

theorem findBody_tag (h : ¬(num16 a b = 0 ∨ 4095 < num16 a b)) : findBody [a, b] s = match s.slotOfTag (num16 a b) with
    | some slot => .accepted s slot.val [byte slot.val, byte (s.stateCode slot)]
    | none => .nothing s := if_neg h

theorem findMatchingBody_form (h : p.length ≠ 5) : findMatchingBody p s = .refused .badForm 0 := by
  unfold findMatchingBody
  split
  · exact absurd rfl h
  · rfl

theorem findMatchingBody_station (high : 15 < st.toNat) (some : st ≠ 0xFF) :
    findMatchingBody [states, st, bank, m1, m0] s = .refused .badForm 2 := if_pos ⟨high, some⟩

variable (station : st.toNat ≤ 15 ∨ st = 0xFF)
include station

theorem findMatchingBody_bank (high : 31 < bank.toNat) (some : bank ≠ 0xFF) :
    findMatchingBody [states, st, bank, m1, m0] s = .refused .badForm 3 := by
  rw [findMatchingBody, if_neg fun ⟨beyond, is⟩ => station.elim (fun low => absurd beyond (not_lt.2 low)) is, if_pos ⟨high, some⟩]

theorem findMatchingBody_found (named : bank.toNat ≤ 31 ∨ bank = 0xFF) : findMatchingBody [states, st, bank, m1, m0] s =
    .accepted s 0 (byte (s.matching states st bank (num16 m1 m0)).length ::
      (s.matching states st bank (num16 m1 m0)).map fun slot => byte slot.val) := by
  rw [findMatchingBody, if_neg fun ⟨beyond, is⟩ => station.elim (fun low => absurd beyond (not_lt.2 low)) is,
    if_neg fun ⟨beyond, is⟩ => named.elim (fun low => absurd beyond (not_lt.2 low)) is]

end

/-- A rule that answers NONE leaves its state and the response (R165). -/
theorem request_nothing {code : Byte} {p : List Byte} {body : State → Reply} {s t : State} (hears : s.listening = true)
    (short : p.length ≤ 64) (e : body (s.takeFrame (3 + p.length)) = .nothing t) :
    Host.Outcome.next (φ := Fault) (ρ := Refusal) (s.request code p body) =
      .next (t.answer code s.buffer.isReady .nothing none 0 []) := by
  rw [State.request_listening code p body s hears short, e]
  rfl

/-! ### The images of READ RECORDS -/

theorem hangerImage_length (s : State) (slot : Slot) : (s.hangerImage slot).length = 24 := by
  unfold State.hangerImage
  split
  · rfl
  · rfl

theorem images_length (s : State) (l : List Slot) : (l.flatMap s.hangerImage).length = 24 * l.length := by
  simp [List.length_flatMap, hangerImage_length, Nat.mul_comm]

theorem deliveredSlots_length (first : Slot) (n : Nat) : (deliveredSlots first n).length = min n (min (48 - first.val) 42) := by
  rw [deliveredSlots, List.length_take, List.length_drop, allSlots, List.length_finRange]
  omega

/-! ### The marks a read clears -/

theorem unmark_marked (s : State) (k l : Kind) (n : Nat) :
    (s.unmark k n).marked l = if l = k then (s.marked k).filter (fun x => x != n) else s.marked l := by
  unfold State.marked State.unmark
  rw [vector_get_set]
  split
  · next same => rw [if_pos (number_injective same)]; rfl
  · next apart => rw [if_neg fun e => apart (congrArg Kind.number e)]

theorem hasMark_unmark_iff (s : State) (k : Kind) (n i : Nat) :
    (s.unmark k n).hasMark k i = true ↔ s.hasMark k i = true ∧ i ≠ n := by
  rw [hasMark_iff, hasMark_iff, unmark_marked, if_pos rfl, List.mem_filter, bne_iff_ne]

/-- RECORD_CHANGED cleared of the slots of a list that pass a test: of those alone, and nothing else changes. -/
theorem unmarkSlots (live : Slot → Bool) (l : List Slot) (s : State) :
    let u := l.foldl (fun t slot => if live slot then t.unmark .recordChanged slot.val else t) s
    (∀ i : Slot, u.hasMark .recordChanged i.val = true ↔ s.hasMark .recordChanged i.val = true ∧ ¬(i ∈ l ∧ live i = true)) ∧
      (∀ k, k ≠ .recordChanged → u.marked k = s.marked k) ∧ { u with marks := s.marks } = s := by
  induction l generalizing s with
  | nil => simp
  | cons x l ih =>
    rw [List.foldl_cons]
    obtain ⟨cleared, kinds, rest⟩ := ih (if live x then s.unmark .recordChanged x.val else s)
    cases alive : live x with
    | false =>
      simp only [alive, Bool.false_eq_true, if_false] at cleared kinds rest ⊢
      refine ⟨fun i => ?_, kinds, rest⟩
      rw [cleared, List.mem_cons]
      by_cases same : i = x <;> simp [same, alive]
    | true =>
      simp only [alive, if_true] at cleared kinds rest ⊢
      refine ⟨fun i => ?_, fun k other => ?_, ?_⟩
      · rw [cleared, hasMark_unmark_iff, List.mem_cons]
        by_cases same : i = x
        · simp [same, alive]
        · simp [same, Fin.val_ne_of_ne same]
      · rw [kinds k other, unmark_marked, if_neg other]
      · exact congrArg (fun t : State => { t with marks := s.marks }) rest

/-- A read clears RECORD_CHANGED of each live record it delivers, or with QUIET of none (R166, R168). -/
theorem readSlots_effects (m : Byte) (l : List Slot) (s : State) :
    (∀ i : Slot, (s.readSlots m l).hasMark .recordChanged i.val =
      (s.hasMark .recordChanged i.val && !(!m.toNat.testBit 5 && decide (i ∈ l) && (s.hangers[i]).isSome))) ∧
    (∀ k, k ≠ .recordChanged → (s.readSlots m l).marked k = s.marked k) ∧ { s.readSlots m l with marks := s.marks } = s := by
  unfold State.readSlots isQuiet
  cases quiet : m.toNat.testBit 5 with
  | true => simp
  | false =>
    obtain ⟨cleared, rest⟩ := unmarkSlots (fun slot => (s.hangers[slot]).isSome) l s
    refine ⟨fun i => ?_, rest⟩
    rw [Bool.eq_iff_iff, if_neg (by decide), cleared]
    by_cases mem : i ∈ l <;> simp [mem]

/-! ### The rule of READ RECORDS -/

section

variable {m a n : Byte} {p : List Byte} {s : State}

theorem readRecordsBody_form (h : p.length ≠ 2) : readRecordsBody m p s = .refused .badForm 0 := by
  unfold readRecordsBody
  split
  · exact absurd rfl h
  · rfl

theorem readRecordsBody_slot (high : 48 ≤ a.toNat) : readRecordsBody m [a, n] s = .refused .badForm 1 := by
  have none : slotOf a = none := finOf_eq_none.2 high
  simp only [readRecordsBody, none]

theorem readRecordsBody_count {first : Slot} (h : n.toNat = 0 ∨ 48 < n.toNat) :
    readRecordsBody m [byte first.val, n] s = .refused .badForm 2 := by
  simp only [readRecordsBody, slotOf_byte, if_pos h]

theorem readRecordsBody_read {first : Slot} (low : 1 ≤ n.toNat) (high : n.toNat ≤ 48) :
    readRecordsBody m [byte first.val, n] s = .accepted (s.readSlots m (deliveredSlots first n.toNat))
      (min n.toNat (min (48 - first.val) 42)) ((deliveredSlots first n.toNat).flatMap s.hangerImage) := by
  have wanted : ¬(n.toNat = 0 ∨ 48 < n.toNat) := by omega
  simp only [readRecordsBody, slotOf_byte, if_neg wanted, deliveredSlots_length]

end

/-! ### The statement -/

theorem find_answers (m a b : Byte) (p : List Byte) (s : State) (hears : s.listening = true)
    (short : p.length ≤ 64) :
    let tag := a.toNat * 256 + b.toNat
    let t := s.takeFrame 5
    (1 ≤ tag → tag ≤ 4095 →
      (∀ slot, t.slotOfTag tag = some slot → exec (.find m [a, b]) s =
        .next (s.okay 0x26 slot.val [byte slot.val, byte (t.stateCode slot)] t)) ∧
      (t.slotOfTag tag = none → exec (.find m [a, b]) s =
        .next (t.answer 0x26 s.buffer.isReady .nothing none 0 []))) ∧
    (tag = 0 ∨ 4095 < tag → exec (.find m [a, b]) s = .next (s.refusedAs 0x26 5 .badForm 0)) ∧
    (p.length ≠ 2 → exec (.find m p) s = .next (s.refusedAs 0x26 (3 + p.length) .badForm 0)) := by
  intro tag t
  have two : [a, b].length ≤ 64 := by simp
  refine ⟨fun low high => ?_, fun out => request_refused hears two (findBody_range out), fun h =>
    request_refused hears short (findBody_form h)⟩
  have body := findBody_tag (a := a) (b := b) (s := t) (by unfold num16; omega)
  refine ⟨fun slot held => request_accepted hears two (body.trans ?_), fun free => request_nothing hears two (body.trans ?_)⟩
  · rw [show t.slotOfTag (num16 a b) = some slot from held]
  · rw [show t.slotOfTag (num16 a b) = none from free]

/-- Settles O39: each rule's answer on the state of the take, in each of its cases. -/
theorem theTableIsReadAsItStands : Obligations.TheTableIsReadAsItStands := by
  unfold Obligations.TheTableIsReadAsItStands
  refine ⟨?_, ?_⟩
  · intro m a b states station bank m1 m0 p s hears short tag t u set
    obtain ⟨found, range, form⟩ := find_answers m a b p s hears short
    have five : [states, station, bank, m1, m0].length ≤ 64 := by simp
    refine ⟨found, range, form, fun high some => ?_, fun low high some => ?_, fun h => ?_, fun low named => ?_⟩
    · exact request_refused hears five (findMatchingBody_station high some)
    · exact request_refused hears five (findMatchingBody_bank low high some)
    · exact request_refused hears short (findMatchingBody_form h)
    · exact ⟨u.matching states station bank set, matching_sorted .., mem_matching states station bank set u,
        request_accepted hears five (findMatchingBody_found low named)⟩
  · intro m first n p s hears short t count slots clears
    have two : ∀ x : Byte, [x, n].length ≤ 64 := fun _ => by simp
    refine ⟨fun low high => ?_, fun h => ?_, fun a high => ?_, fun h => ?_⟩
    · refine ⟨_, request_accepted hears (two _) (readRecordsBody_read low high), ?_, readSlots_effects m slots t⟩
      rw [images_length]
      exact congrArg _ (deliveredSlots_length first n.toNat)
    · exact request_refused hears (two _) (readRecordsBody_count h)
    · exact request_refused hears (two _) (readRecordsBody_slot high)
    · exact request_refused hears short (readRecordsBody_form h)

end Sys2Proof.Machine.HangerTable
end

section
/-! What the operations of the line do to the RECORD_CHANGED marks (R37): none is cleared, and a record is changed in state, leg, held flag or
position only with its mark set. -/

namespace Sys2Proof.Machine.HangerTable

open Sys2Proof.Machine.RecipeBanks

/-- What leaves every RECORD_CHANGED mark set and sets that of every slot whose record it changes (R37). -/
structure Notes (s t : State) : Prop where
  kept : ∀ n, s.hasMark .recordChanged n = true → t.hasMark .recordChanged n = true
  noted : ∀ (slot : Slot) (g : Hanger), t.hangers[slot] = some g → t.hasMark .recordChanged slot.val = true ∨
    ∃ h, s.hangers[slot] = some h ∧ recordChanges h g = false

section

variable {s t u : State}

theorem Notes.of_same (table : t.hangers = s.hangers) (marks : t.marks = s.marks) : Notes s t where
  kept n h := by rwa [hasMark_congr marks]
  noted slot g live := .inr ⟨g, by rwa [table] at live, recordChanges_self g⟩

theorem Notes.refl (s : State) : Notes s s := .of_same rfl rfl

theorem Notes.trans (a : Notes s t) (b : Notes t u) : Notes s u where
  kept n h := b.kept n (a.kept n h)
  noted slot g live := by
    rcases b.noted slot g live with marked | ⟨m, mid, second⟩
    · exact .inl marked
    · rcases a.noted slot m mid with marked | ⟨h, found, first⟩
      · exact .inl (b.kept _ marked)
      · exact .inr ⟨h, found, recordChanges_trans first second⟩

theorem Notes.fold {α : Type} (f : State → α → State) (hf : ∀ s a, Notes s (f s a)) (l : List α) (s : State) : Notes s (l.foldl f s) := by
  induction l generalizing s with
  | nil => exact .refl s
  | cons a l ih => exact (hf s a).trans (ih _)

/-- Hauls note the records they lift. -/
theorem Hauls.notes {slots : Slot → Prop} (m : Hauls slots s t) : Notes s t where
  kept n h := m.marks _ n h
  noted slot g live := by
    obtain ⟨h, found, _⟩ := m.record_of live
    cases changes : recordChanges h g with
    | true => exact .inl (m.noted slot h g found live changes)
    | false => exact .inr ⟨h, found, changes⟩

/-! ### The elementary writes -/

theorem putHanger_notes (s : State) (slot : Slot) (g : Hanger) : Notes s (s.putHanger slot g) where
  kept n h := putHanger_hasMark slot g h
  noted i x live := by
    rw [State.putHanger_get] at live
    split at live
    · next same =>
      subst same
      cases live
      cases found : s.hangers[i] with
      | none => exact .inl (putHanger_vacant_hasMark g found)
      | some h =>
        cases changes : recordChanges h g with
        | true => exact .inl (putHanger_hasMark_changed found changes)
        | false => exact .inr ⟨h, rfl, changes⟩
    · exact .inr ⟨x, live, recordChanges_self x⟩

theorem mark_notes (s : State) (k : Kind) (n : Nat) : Notes s (s.mark k n) where
  kept _ h := hasMark_mark k n h
  noted _ g live := .inr ⟨g, live, recordChanges_self g⟩

/-- A mark that is cleared is no mark of another kind. -/
theorem hasMark_unmark_apart (s : State) {k l : Kind} (n i : Nat) (apart : l ≠ k) : (s.unmark k n).hasMark l i = s.hasMark l i := by
  simp only [State.hasMark, unmark_marked, if_neg apart]

theorem unmark_notes (s : State) {k : Kind} (n : Nat) (other : k ≠ .recordChanged) : Notes s (s.unmark k n) where
  kept i h := by rwa [hasMark_unmark_apart s n i other.symm]
  noted _ g live := .inr ⟨g, live, recordChanges_self g⟩

theorem queue_notes (s : State) (q : List Request) : Notes s { s with queue := q } := .of_same rfl rfl

theorem station_notes (s : State) (st : StationNo) (x : Station) : Notes s (s.setStation st x) := .of_same rfl rfl

theorem setBay_notes (s : State) (d : BayRef) (b : Bay) : Notes s (s.setBay d b) := .of_same rfl rfl

theorem carriage_notes (s : State) (c : CarriageId) (x : Carriage) : Notes s (s.setCarriage c x) := .of_same (by simp) (by simp)

theorem sendOrder_notes (s : State) (c : CarriageId) (o : Order) : Notes s (s.sendOrder c o) := .of_same (by simp) (by simp)

theorem advance_notes (s : State) (c : CarriageId) (x : CarriageState) : Notes s (s.advance c x) := carriage_notes s c _

theorem silenceAuto_notes (s : State) (ch : ChannelNo) : Notes s (s.silenceAuto ch) :=
  (silenceAuto_hauls (slots := fun _ => True) s ch).notes

theorem silenceHoist_notes (s : State) (j : Job) : Notes s (s.silenceHoist j) := by
  obtain ⟨_, _, _, table, marks, _⟩ := silenceHoist_same s j
  exact .of_same table marks

/-! ### The carriages -/

theorem arbitrate_notes (s : State) : Notes s s.arbitrate := (arbitrate_hauls s).notes

theorem signal_notes (s : State) (slot : Slot) : Notes s (s.signal slot) := (signal_hauls s slot).notes

theorem liftOrder_notes (s : State) (c : CarriageId) : Notes s (s.liftOrder c) := by
  cases job : (s.carriage c).job with
  | none => simpa only [State.liftOrder, job] using .refl s
  | some j => exact (liftOrder_hauls job).notes

theorem liftOrAwait_notes (s : State) (c : CarriageId) : Notes s (s.liftOrAwait c) := by
  cases job : (s.carriage c).job with
  | none => simpa only [State.liftOrAwait, job] using .refl s
  | some j => exact (liftOrAwait_hauls job).notes

theorem lowerOrder_notes (s : State) (c : CarriageId) : Notes s (s.lowerOrder c) := by
  unfold State.lowerOrder
  split
  · exact .refl s
  · exact ((advance_notes s c _).trans (sendOrder_notes _ c _)).trans (silenceAuto_notes _ _)

theorem goOn_notes (s : State) (c : CarriageId) : Notes s (s.goOn c) := by
  unfold State.goOn
  split
  · exact .refl s
  · dsimp only
    split
    · exact (carriage_notes s c _).trans (lowerOrder_notes _ c)
    · exact ((carriage_notes s c _).trans (advance_notes _ c _)).trans (sendOrder_notes _ c _)

/-! ### The Move Queue -/

theorem settleUnloadFull_notes (s : State) (was : Bool) : Notes s (s.settleUnloadFull was) := by
  unfold State.settleUnloadFull
  split
  · exact unmark_notes s 0 (by decide)
  · exact .refl s

theorem reserve_notes (s : State) (slot : Slot) (h : Hanger) (d : BayRef) : Notes s (s.reserve slot h d) :=
  (setBay_notes s d _).trans (putHanger_notes _ slot _)

theorem lodge_notes (s : State) (slot : Slot) (cls : RequestClass) (b : Beat) : Notes s (s.lodge slot cls b) := by
  unfold State.lodge
  split
  · exact .refl s
  · split
    · exact .refl s
    · split
      · exact ((reserve_notes s slot _ _).trans (queue_notes _ _)).trans (arbitrate_notes _)
      · dsimp only
        split
        · exact ((queue_notes s _).trans (mark_notes _ _ _)).trans (mark_notes _ _ _)
        · exact (queue_notes s _).trans (mark_notes _ _ _)

theorem offerBay_notes (s : State) (d : BayRef) : Notes s (s.offerBay d) := by
  unfold State.offerBay
  split
  · exact .refl s
  · split
    · exact .refl s
    · split
      · exact .refl s
      · exact ((((reserve_notes s _ _ d).trans (unmark_notes _ _ (by decide))).trans (queue_notes _ _)).trans
          (settleUnloadFull_notes _ _)).trans (arbitrate_notes _)

theorem releaseBays_notes (s : State) (ds : List BayRef) : Notes s (s.releaseBays ds) :=
  (Notes.fold _ (fun t d => setBay_notes t d _) ds s).trans (Notes.fold _ offerBay_notes _ _)

theorem dropRequest_notes (s : State) (slot : Slot) : Notes s (s.dropRequest slot) := by
  unfold State.dropRequest
  split
  · exact .refl s
  · exact ((queue_notes s _).trans (unmark_notes _ _ (by decide))).trans (settleUnloadFull_notes _ _)

/-! ### Legs, faults and recoveries -/

theorem occupyBay_notes (s : State) (slot : Slot) (d : BayRef) : Notes s (s.occupyBay slot d) := by
  unfold State.occupyBay
  dsimp only
  split
  · exact setBay_notes s d _
  · exact (setBay_notes s d _).trans (station_notes _ _ _)

theorem chargeBath_notes (s : State) (st : StationNo) (area : Nat) : Notes s (s.chargeBath st area) := by
  unfold State.chargeBath
  dsimp only
  split
  · have charged := station_notes s st ((s.stations[st].charged (chargeLoss area s.stations[st].exhaust)).accumulated area)
    split <;> split
    · exact (charged.trans (mark_notes _ _ _)).trans (mark_notes _ _ _)
    · exact charged.trans (mark_notes _ _ _)
    · exact charged.trans (mark_notes _ _ _)
    · exact charged
  · exact .refl s

theorem creditBath_notes (s : State) (st : StationNo) : Notes s (s.creditBath st) := by
  unfold State.creditBath
  dsimp only
  split
  · exact (station_notes s st _).trans (unmark_notes _ _ (by decide))
  · exact station_notes s st _

theorem beginLeg_notes (s : State) (slot : Slot) : Notes s (s.beginLeg slot) := by
  unfold State.beginLeg
  split
  · exact .refl s
  · split
    · exact .refl s
    · have lowered := fun d n => (occupyBay_notes s slot d).trans (putHanger_notes _ slot n)
      dsimp only
      split
      · exact ((lowered _ _).trans (mark_notes _ _ _)).trans (chargeBath_notes _ _ _)
      · exact (lowered _ _).trans (chargeBath_notes _ _ _)

theorem faultHanger_notes (s : State) (slot : Slot) (f : FaultReason) : Notes s (s.faultHanger slot f) := by
  unfold State.faultHanger
  split
  · exact .refl s
  · exact (putHanger_notes s slot _).trans (mark_notes _ _ _)

theorem faultCarriage_notes (s : State) (c : CarriageId) (code : Nat) (f : FaultReason) : Notes s (s.faultCarriage c code f) := by
  have faulted := (carriage_notes s c ((s.carriage c).faulted code)).trans (mark_notes _ .carriageFault (carriageNumber c))
  unfold State.faultCarriage
  dsimp only
  split
  · exact faulted
  · split
    · exact (faulted.trans (queue_notes _ _)).trans (arbitrate_notes _)
    · exact (faulted.trans (silenceHoist_notes _ _)).trans (faultHanger_notes _ _ _)

theorem returnHanger_notes (s : State) (slot : Slot) (d : BayRef) : Notes s (s.returnHanger slot d) := by
  have back : ∀ h g : Hanger, Notes s (((s.occupyBay slot d).putHanger slot g).releaseBays h.destination.toList) := fun h g =>
    ((occupyBay_notes s slot d).trans (putHanger_notes _ slot g)).trans (releaseBays_notes _ _)
  unfold State.returnHanger
  split
  · exact .refl s
  · next h _ =>
    rcases s.legKind h with _ | _ | _ | _
    · exact (back h _).trans (lodge_notes _ _ _ _)
    · exact (back h _).trans (lodge_notes _ _ _ _)
    · exact back h _
    · exact back h _

theorem settleHanger_notes (s : State) (out : RecoveryOutcome) (j : Job) : Notes s (s.settleHanger out j) := by
  cases out with
  | returned => exact returnHanger_notes s j.slot j.source
  | delivered => exact (beginLeg_notes s j.slot).trans (releaseBays_notes _ _)
  | removed =>
    unfold State.settleHanger State.removeHanger
    dsimp only
    split
    · exact .refl s
    · exact (putHanger_notes s _ _).trans (releaseBays_notes _ _)

end

/-! ### The beat -/

theorem callPoint_notes (s : State) (slot : Slot) (h : Hanger) (n : Nat) : Notes s (s.callPoint slot h n) := by
  unfold State.callPoint
  split
  · exact .refl s
  · split
    · exact (putHanger_notes s slot _).trans (lodge_notes _ _ _ _)
    · exact .refl s

theorem takeTask_notes (s : State) (e : BeatTask) : Notes s (s.takeTask e) := by
  cases e with
  | develop slot =>
    unfold State.takeTask State.developSlot
    dsimp only
    split
    · exact .refl s
    · split
      · exact .refl s
      · have called := fun t g n => (callPoint_notes t slot g n).trans (signal_notes _ slot)
        split
        · split
          · exact ((putHanger_notes s slot _).trans (mark_notes _ _ _)).trans (called _ _ _)
          · exact (putHanger_notes s slot _).trans (called _ _ _)
        · exact .refl s
  | minimum slot =>
    unfold State.takeTask State.minimumSlot
    dsimp only
    repeat' split
    case isTrue => exact (putHanger_notes s slot _).trans (lodge_notes _ _ _ _)
    all_goals exact .refl s
  | overstay slot =>
    unfold State.takeTask State.overstaySlot
    dsimp only
    repeat' split
    case isTrue => exact (putHanger_notes s slot _).trans (mark_notes _ _ _)
    all_goals exact .refl s
  | credit st => exact creditBath_notes s st

theorem ageReadings_notes (s : State) : Notes s s.ageReadings :=
  Notes.fold _ (fun t st => by
    unfold State.ageStation
    dsimp only
    split
    · exact (station_notes t st _).trans (mark_notes _ _ _)
    · exact station_notes t st _) _ s

theorem transfer_notes (s : State) (running : List PumpNo) (n : Nat) (due : List FollowUp) :
    Notes s { s.transfer running with draws := n, due := due } :=
  .of_same (by simp only [State.transfer]) (by simp only [State.transfer])

/-- The work of a beat: some tasks, taken in turn after the readings have aged and the pump runs started and counted; then the transfer. -/
theorem beatEffect_worked (s : State) : ∃ (tasks : List BeatTask) (running : List PumpNo) (due : List FollowUp),
    s.beatEffect = { (tasks.foldl State.takeTask s.found.counted.ageReadings.startRuns.countRuns).transfer running with
      draws := s.draws + 1, due := due } := ⟨_, _, _, rfl⟩

/-- A beat notes what it changes, from the state it finds. -/
theorem beatEffect_notes (s : State) : Notes s.found s.beatEffect := by
  have started : ∀ t : State, Notes t t.startRuns := Notes.fold _ (fun t st => station_notes t st _) _
  have ran : ∀ t : State, Notes t t.countRuns := Notes.fold _ (fun t st => station_notes t st _) _
  have worked : ∀ (a : State) (l : List BeatTask), Notes a (l.foldl State.takeTask a.ageReadings.startRuns.countRuns) := fun a l =>
    (((ageReadings_notes a).trans (started _)).trans (ran _)).trans (Notes.fold _ takeTask_notes l _)
  have counted : Notes s.found s.found.counted := .of_same rfl rfl
  obtain ⟨tasks, running, due, effect⟩ := beatEffect_worked s
  rw [effect]
  exact (counted.trans (worked _ tasks)).trans (transfer_notes _ running _ due)

end Sys2Proof.Machine.HangerTable
end

section
/-! A change of state, leg, held flag or position of a record leaves its RECORD_CHANGED mark set, whatever command makes it (R37): each
command notes what it changes, leaves the table as it is, or empties slots. -/

namespace Sys2Proof.Machine.HangerTable

open Sys2Proof.Machine.RecipeBanks

/-! ### The line -/

theorem strayReport_notes (s : State) (c : CarriageId) : Notes s (s.strayReport c) := by
  unfold State.strayReport
  split
  · exact .refl s
  · exact faultCarriage_notes s c _ _

theorem arrive_notes (s : State) (c : CarriageId) : Notes s (s.arrive c) := by
  unfold State.arrive
  split
  · exact .refl s
  · split
    · exact ((carriage_notes s c _).trans (arbitrate_notes _)).trans (liftOrAwait_notes _ c)
    · exact (carriage_notes s c _).trans (lowerOrder_notes _ c)

theorem park_notes (s : State) (c : CarriageId) : Notes s (s.park c) := (carriage_notes s c _).trans (arbitrate_notes _)

theorem lifted_notes (s : State) (c : CarriageId) : Notes s (s.lifted c) := by
  unfold State.lifted State.drain
  split
  · exact .refl s
  · split
    · exact (releaseBays_notes s _).trans (goOn_notes _ c)
    · exact (releaseBays_notes s _).trans (carriage_notes _ c _)

theorem lowered_notes (s : State) (c : CarriageId) : Notes s (s.lowered c) := by
  unfold State.lowered
  split
  · exact .refl s
  · exact ((beginLeg_notes s _).trans (carriage_notes _ c _)).trans (arbitrate_notes _)

theorem settleCarriage_notes (s : State) (c : CarriageId) : Notes s (s.settleCarriage c) := by
  unfold State.settleCarriage
  split
  · exact .refl s
  · unfold State.reissue
    dsimp only
    split
    · exact .refl s
    · exact (carriage_notes s c _).trans (sendOrder_notes _ c _)
  · exact faultCarriage_notes s c _ _
  · exact liftOrder_notes s c
  · exact goOn_notes s c

theorem run_notes (s : State) : Notes s { s with lineState := .run } := .of_same rfl rfl

theorem resumed_notes (s : State) : Notes s s.resumed :=
  ((run_notes s).trans (Notes.fold _ settleCarriage_notes _ _)).trans (arbitrate_notes _)

theorem putIn_notes (s : State) (d : BayRef) : Notes s (s.putIn d) := by
  unfold State.putIn
  split
  · exact .refl s
  · exact (setBay_notes s d _).trans (offerBay_notes _ d)
  · exact setBay_notes s d _
  · exact setBay_notes s d _

theorem recover_notes (s : State) (c : CarriageId) (q : Int) : Notes s (s.recover c q) :=
  (carriage_notes s c _).trans (arbitrate_notes _)

/-! ### The Hanger Table -/

theorem enterHanger_notes (s : State) (slot : Slot) (h : Hanger) (d : BayRef) : Notes s (s.enterHanger slot h d) := by
  have entered : Notes s (enteredAt s slot h d) :=
    ((occupyBay_notes s slot d).trans (putHanger_notes _ slot h)).trans (.of_same rfl rfl)
  rw [enterHanger_eq]
  exact entered.trans (lodge_notes _ _ _ _)

theorem hold_notes (s : State) (slot : Slot) (h : Hanger) : Notes s (s.hold slot h) :=
  ((dropRequest_notes s slot).trans (putHanger_notes _ slot _)).trans (releaseBays_notes _ _)

theorem release_notes (s : State) (slot : Slot) (h : Hanger) : Notes s (s.release slot h) := by
  have lodged := fun g cls b => (putHanger_notes s slot g).trans (lodge_notes _ slot cls b)
  unfold State.release
  dsimp only
  split
  · exact lodged _ _ _
  · split
    · exact lodged _ _ _
    · exact putHanger_notes s slot _

theorem amend_notes (s : State) (slot : Slot) (h : Hanger) (change : Byte) (push : Int) (area : Nat) :
    Notes s (s.amend slot h change push area) := by
  unfold State.amend State.retarget
  dsimp only
  split
  · split
    · split
      · exact (putHanger_notes s slot _).trans (lodge_notes _ _ _ _)
      · exact (putHanger_notes s slot _).trans (signal_notes _ slot)
    · exact putHanger_notes s slot _
  · exact putHanger_notes s slot _

theorem setDose_notes (s : State) (slot : Slot) (g : Hanger) : Notes s (s.setDose slot g) := by
  unfold State.setDose
  split
  · exact (putHanger_notes s slot _).trans (lodge_notes _ _ _ _)
  · exact (putHanger_notes s slot _).trans (signal_notes _ slot)

/-! ### Updates outside the table -/

@[simp] theorem setBay_hangers (s : State) (d : BayRef) (b : Bay) : (s.setBay d b).hangers = s.hangers := rfl
@[simp] theorem withLevel_hangers (s : State) (k : Kind) (n : Nat) : (s.withLevel k n).hangers = s.hangers := rfl
@[simp] theorem enterService_hangers (s : State) (k : Kind) : (s.enterService k).hangers = s.hangers := rfl

@[simp] theorem takeSteps_hangers (s : State) (b : BankNo) (n : Nat) (l : List Step) : (s.takeSteps b n l).hangers = s.hangers := by
  unfold State.takeSteps
  split <;> rfl

@[simp] theorem cutRunShort_hangers (s : State) (st : StationNo) : (s.cutRunShort st).hangers = s.hangers := by
  unfold State.cutRunShort
  dsimp only
  split
  · rfl
  · split <;> split <;> simp [State.silenceAuto_hangers]

@[simp] theorem cutRunOn_hangers (s : State) (ch : ChannelNo) : (s.cutRunOn ch).hangers = s.hangers := by
  unfold State.cutRunOn
  split
  · rfl
  · split <;> simp

@[simp] theorem enableChannel_hangers (s : State) (v : Bool) (ch : ChannelNo) : (s.enableChannel v ch).hangers = s.hangers := by
  unfold State.enableChannel
  dsimp only
  split
  · rfl
  · split <;> simp

@[simp] theorem changeMode_hangers (s : State) (ch : ChannelNo) (m : ChannelMode) : (s.changeMode ch m).hangers = s.hangers := by
  unfold State.changeMode
  dsimp only
  split <;> simp

@[simp] theorem writeBath_hangers (s : State) (st : StationNo) (e q : Nat) (p : Option PumpNo) (l r : Nat) :
    (s.writeBath st e q p l r).hangers = s.hangers := by
  unfold State.writeBath
  dsimp only
  split <;> simp

@[simp] theorem giveStation_hangers (s : State) (st : StationNo) (c : StationClass) (n : Nat) (p : PatternNo) :
    (s.giveStation st c n p).hangers = s.hangers := by
  unfold State.giveStation
  dsimp only
  split <;> split <;> simp

@[simp] theorem ackRead_hangers (s : State) (m : Byte) (k : Kind) (n : Nat) : (s.ackRead m k n).hangers = s.hangers := by
  unfold State.ackRead
  split
  · split <;> rfl
  · rfl

/-- A fold of steps that leave the table leaves it. -/
theorem foldl_hangers {α : Type} (f : State → α → State) (hf : ∀ s a, (f s a).hangers = s.hangers) (l : List α) (s : State) :
    (l.foldl f s).hangers = s.hangers := by
  induction l generalizing s with
  | nil => rfl
  | cons a l ih => exact (ih _).trans (hf s a)

@[simp] theorem readSlots_hangers (s : State) (m : Byte) (slots : List Slot) : (s.readSlots m slots).hangers = s.hangers := by
  unfold State.readSlots
  split
  · rfl
  · exact foldl_hangers _ (fun t slot => by split <;> rfl) slots s

theorem haltCarriage_hangers (s : State) (c : CarriageId) : (s.haltCarriage c).hangers = s.hangers := by
  unfold State.haltCarriage
  dsimp only
  split
  · rfl
  · split
    · obtain ⟨_, _, _, table, _⟩ := silenceHoist_same _ _
      exact table.trans (by simp)
    · simp

theorem lineStop_hangers (s : State) : s.lineStop.hangers = s.hangers := by
  simp only [State.lineStop, State.cutRuns, State.mark_hangers, foldl_hangers _ haltCarriage_hangers,
    foldl_hangers _ cutRunShort_hangers, State.cutChannels]

theorem reading_hangers (s : State) (st : StationNo) (n : Nat) : (s.reading st n).hangers = s.hangers := by
  unfold State.reading State.takeSensorFault
  split
  · dsimp only
    split <;> rfl
  · rfl

theorem fetch_hangers (s : State) (n : Nat) : (s.fetch n).hangers = s.hangers := by
  unfold State.fetch
  split <;> rfl

/-! ### What is recorded -/

/-- The marks of a state tell what has changed in the records since another (R37). -/
def Recorded (s t : State) : Prop := ∀ (slot : Slot) (h g : Hanger), s.hangers[slot] = some h → t.hangers[slot] = some g →
  recordChanges h g = true → t.hasMark .recordChanged slot.val = true

section

variable {s t u : State}

theorem Recorded.of_table (table : t.hangers = s.hangers) : Recorded s t := fun slot h g live live' changes => by
  rw [table, live] at live'
  cases live'
  rw [recordChanges_self] at changes
  cases changes

theorem Notes.recorded (m : Notes s t) : Recorded s t := fun slot h g live live' changes => by
  rcases m.noted slot g live' with marked | ⟨x, found, same⟩
  · exact marked
  · cases live.symm.trans found
    rw [changes] at same
    cases same

theorem Recorded.since (m : Recorded u t) (table : u.hangers = s.hangers) : Recorded s t := fun slot h g live =>
  m slot h g (by rwa [table])

theorem Recorded.until (m : Recorded s u) (table : t.hangers = u.hangers) (marks : t.marks = u.marks) : Recorded s t :=
  fun slot h g live live' changes => by
    rw [hasMark_congr marks]
    exact m slot h g live (by rwa [table] at live') changes

/-- A slot that a retirement empties holds no record; the others' changes are noted (R43). -/
theorem retire_recorded (s : State) (slot : Slot) (h : Hanger) : Recorded s (s.retire slot h) := by
  have freed := (dropRequest_notes s slot).trans (releaseBays_notes _ (h.destination.toList ++ h.position.toList))
  have cleared : ∀ (l : List Kind) (u : State) (i : Slot), i ≠ slot → (l.foldl (fun t k => t.unmark k slot.val) u).hasMark
      .recordChanged i.val = u.hasMark .recordChanged i.val := fun l u i apart => by
    induction l generalizing u with
    | nil => rfl
    | cons k l ih =>
      rw [List.foldl_cons, ih]
      by_cases same : k = .recordChanged
      · subst same
        rw [Bool.eq_iff_iff, hasMark_unmark_iff]
        exact and_iff_left fun e => apart (Fin.ext e)
      · exact hasMark_unmark_apart u _ _ (Ne.symm same)
  unfold State.retire State.unmarkSlot
  dsimp only
  generalize (s.dropRequest slot).releaseBays _ = u at freed
  have table := foldl_hangers (fun t k => t.unmark k slot.val) (fun _ _ => rfl) hangerKinds u
  have marks := cleared hangerKinds u
  generalize hangerKinds.foldl _ _ = v at table marks
  intro i x g live live' changes
  have get : (v.hangers.set slot.val none)[i] = some g := live'
  rw [vector_get_set] at get
  split at get
  · cases get
  · next apart =>
    rw [table] at get
    exact (marks i apart).trans (freed.recorded i x g live get changes)

end

/-! ### The rules of the host's commands -/

/-- What a rule's answer is, said of the state it leaves. -/
inductive Answers (P : State → Prop) : Reply → Prop
  | accepted {t : State} {n : Nat} {l : List Byte} : P t → Answers P (.accepted t n l)
  | nothing {t : State} : P t → Answers P (.nothing t)
  | refused {r : Reason} {n : Nat} : Answers P (.refused r n)

@[simp] theorem answers_accepted (P : State → Prop) (t : State) (n : Nat) (l : List Byte) : Answers P (.accepted t n l) ↔ P t :=
  ⟨fun | .accepted h => h, .accepted⟩
@[simp] theorem answers_nothing (P : State → Prop) (t : State) : Answers P (.nothing t) ↔ P t := ⟨fun | .nothing h => h, .nothing⟩
@[simp] theorem answers_refused (P : State → Prop) (r : Reason) (n : Nat) : Answers P (.refused r n) := .refused

theorem Answers.mono {P Q : State → Prop} {r : Reply} (h : Answers P r) (imp : ∀ t, P t → Q t) : Answers Q r := by
  cases h with
  | accepted h => exact .accepted (imp _ h)
  | nothing h => exact .nothing (imp _ h)
  | refused => exact .refused

/-- A rule's answer leaves the table as it found it. -/
abbrev Leaves (s : State) (r : Reply) : Prop := Answers (fun t => t.hangers = s.hangers) r

theorem Leaves.recorded {s : State} {r : Reply} (h : Leaves s r) : Answers (Recorded s) r := h.mono fun _ => .of_table

theorem answers_noPayload {P : State → Prop} {p : List Byte} {body : State → Reply} {s : State} (h : Answers P (body s)) :
    Answers P (noPayload p body s) := by
  unfold noPayload
  split
  · exact h
  · exact .refused

theorem answers_withRecord {P : State → Prop} {p : List Byte} {s : State} {body : Slot → Hanger → List Byte → Reply}
    (h : ∀ slot g rest, Answers P (body slot g rest)) : Answers P (withRecord p s body) := by
  unfold withRecord
  repeat' split
  case h_2 => exact h _ _ _
  all_goals exact .refused

theorem answers_placement {P : State → Prop} {a b : Byte} {body : CarriageId → Int → Reply} (h : ∀ c q, Answers P (body c q)) :
    Answers P (placement a b body) := by
  unfold placement
  repeat' split
  case h_2 => exact h _ _
  all_goals exact .refused

/-! #### Rules that leave the table -/

theorem leaves_setLineParameters (p : List Byte) (s : State) : Leaves s (setLineParametersBody p s) := by
  unfold setLineParametersBody
  repeat' split
  all_goals simp

theorem leaves_startLine (s : State) : Leaves s (startLineBody s) := by
  unfold startLineBody
  repeat' split
  all_goals simp

theorem leaves_stopLine (s : State) : Leaves s (stopLineBody s) := by
  unfold stopLineBody
  repeat' split
  all_goals simp

theorem leaves_pauseLine (s : State) : Leaves s (pauseLineBody s) := by
  unfold pauseLineBody
  split <;> simp

theorem leaves_setStation (p : List Byte) (s : State) : Leaves s (setStationBody p s) := by
  unfold setStationBody
  repeat' split
  all_goals simp

theorem leaves_readStation (p : List Byte) (s : State) : Leaves s (readStationBody p s) := by
  unfold readStationBody
  repeat' split
  all_goals simp

theorem leaves_setActivity (p : List Byte) (s : State) : Leaves s (setActivityBody p s) := by
  unfold setActivityBody
  dsimp only
  repeat' split
  all_goals simp

theorem leaves_setBathParameters (p : List Byte) (s : State) : Leaves s (setBathParametersBody p s) := by
  unfold setBathParametersBody
  repeat' split
  all_goals simp

theorem leaves_selectBank (p : List Byte) (s : State) : Leaves s (selectBankBody p s) := by
  unfold selectBankBody
  repeat' split
  all_goals simp

theorem leaves_loadSteps (m : Byte) (p : List Byte) (s : State) : Leaves s (loadStepsBody m p s) := by
  unfold loadStepsBody
  dsimp only
  repeat' split
  all_goals simp

theorem leaves_clearBank (m : Byte) (s : State) : Leaves s (clearBankBody m s) := by
  unfold clearBankBody
  dsimp only
  split <;> simp

theorem leaves_setRateTable (p : List Byte) (s : State) : Leaves s (setRateTableBody p s) := by
  unfold setRateTableBody
  split <;> simp

theorem leaves_find (p : List Byte) (s : State) : Leaves s (findBody p s) := by
  unfold findBody
  repeat' split
  all_goals simp

theorem leaves_findMatching (p : List Byte) (s : State) : Leaves s (findMatchingBody p s) := by
  unfold findMatchingBody
  dsimp only
  repeat' split
  all_goals simp

theorem leaves_readRecords (m : Byte) (p : List Byte) (s : State) : Leaves s (readRecordsBody m p s) := by
  unfold readRecordsBody
  dsimp only
  repeat' split
  all_goals simp

theorem leaves_placeCarriage (p : List Byte) (s : State) : Leaves s (placeCarriageBody p s) := by
  unfold placeCarriageBody
  split
  · refine answers_placement fun c q => ?_
    repeat' split
    all_goals simp
  · simp

theorem leaves_readCarriage (p : List Byte) (s : State) : Leaves s (readCarriageBody p s) := by
  unfold readCarriageBody
  repeat' split
  all_goals simp

theorem leaves_setChannelMode (p : List Byte) (s : State) : Leaves s (setChannelModeBody p s) := by
  unfold setChannelModeBody
  repeat' split
  all_goals simp

theorem leaves_enableOutputs (p : List Byte) (s : State) : Leaves s (enableOutputsBody p s) := by
  unfold enableOutputsBody
  split
  · split
    · exact .refused
    · exact .accepted (foldl_hangers _ (fun t ch => enableChannel_hangers t _ ch) _ s)
  · exact .refused

theorem leaves_setManualOutputs (p : List Byte) (s : State) : Leaves s (setManualOutputsBody p s) := by
  unfold setManualOutputsBody
  split
  · split
    · exact .refused
    · exact .accepted (foldl_hangers _ (fun t ch => State.setChannel_hangers (s := t) ch _) _ s)
  · exact .refused

theorem leaves_setPattern (p : List Byte) (s : State) : Leaves s (setPatternBody p s) := by
  unfold setPatternBody
  repeat' split
  all_goals simp

theorem leaves_ack (m : Byte) (s : State) : Leaves s (ackBody m s) := by
  unfold ackBody
  split <;> simp

theorem leaves_done (s : State) : Leaves s (doneBody s) := by
  unfold doneBody
  split <;> simp

theorem leaves_setMask (p : List Byte) (s : State) : Leaves s (setMaskBody p s) := by
  unfold setMaskBody
  repeat' split
  all_goals simp

theorem leaves_setLevel (p : List Byte) (s : State) : Leaves s (setLevelBody p s) := by
  unfold setLevelBody
  repeat' split
  all_goals simp

theorem leaves_clearMark (p : List Byte) (s : State) : Leaves s (clearMarkBody p s) := by
  unfold clearMarkBody
  repeat' split
  all_goals simp

/-! #### Rules that note what they change -/

theorem resume_records (s : State) : Answers (Recorded s) (resumeBody s) := by
  have restarted : Notes s (State.arbitrate { s with lineState := .run }) := (run_notes s).trans (arbitrate_notes _)
  unfold resumeBody
  repeat' split
  all_goals simp [restarted.recorded, (resumed_notes s).recorded]

theorem setBayService_records (p : List Byte) (s : State) : Answers (Recorded s) (setBayServiceBody p s) := by
  unfold setBayServiceBody
  dsimp only
  repeat' split
  all_goals simp [(setBay_notes s _ _).recorded, (putIn_notes s _).recorded]

theorem admit_records (m : Byte) (p : List Byte) (s : State) : Answers (Recorded s) (admitBody m p s) := by
  unfold admitBody
  dsimp only
  repeat' split
  all_goals simp [(enterHanger_notes s _ _ _).recorded]

theorem retire_records (p : List Byte) (s : State) : Answers (Recorded s) (retireBody p s) := by
  refine answers_withRecord fun slot h rest => ?_
  repeat' split
  all_goals simp [retire_recorded]

theorem hold_records (p : List Byte) (s : State) : Answers (Recorded s) (holdBody p s) := by
  refine answers_withRecord fun slot h rest => ?_
  repeat' split
  all_goals simp [(hold_notes s _ _).recorded, (Notes.refl s).recorded]

theorem release_records (p : List Byte) (s : State) : Answers (Recorded s) (releaseBody p s) := by
  refine answers_withRecord fun slot h rest => ?_
  repeat' split
  all_goals simp [(release_notes s _ _).recorded, (Notes.refl s).recorded]

theorem amend_records (p : List Byte) (s : State) : Answers (Recorded s) (amendBody p s) := by
  refine answers_withRecord fun slot h rest => ?_
  dsimp only
  repeat' split
  all_goals simp [(amend_notes s _ _ _ _ _).recorded]

theorem setDose_records (p : List Byte) (s : State) : Answers (Recorded s) (setDoseBody p s) := by
  refine answers_withRecord fun slot h rest => ?_
  dsimp only
  repeat' split
  all_goals simp [(setDose_notes s _ _).recorded]

theorem recoverCarriage_records (p : List Byte) (s : State) : Answers (Recorded s) (recoverCarriageBody p s) := by
  have settled := fun out j c q => (settleHanger_notes s out j).trans (recover_notes _ c q)
  unfold recoverCarriageBody
  split
  · refine answers_placement fun c q => ?_
    repeat' split
    all_goals simp [(settled _ _ _ _).recorded, (recover_notes s _ _).recorded]
  · exact .refused

theorem disableCarriage_records (p : List Byte) (s : State) : Answers (Recorded s) (disableCarriageBody p s) := by
  have disabled := fun c x => (carriage_notes s c x).trans (arbitrate_notes _)
  unfold disableCarriageBody
  split
  · refine answers_placement fun c q => ?_
    repeat' split
    all_goals simp [(disabled _ _).recorded]
  · exact .refused

theorem enableCarriage_records (p : List Byte) (s : State) : Answers (Recorded s) (enableCarriageBody p s) := by
  unfold enableCarriageBody
  split
  · refine answers_placement fun c q => ?_
    repeat' split
    all_goals simp [(recover_notes s _ _).recorded]
  · exact .refused

/-! ### Every command -/

/-- Whatever an outcome's next state is, its marks tell what has changed in the records. -/
def Recording (s : State) (o : Host.Outcome State Fault Refusal) : Prop := ∀ t, o = .next t → Recorded s t

section

variable {s : State}

theorem recording_next {t : State} (h : Recorded s t) : Recording s (.next t) := by
  rintro _ ⟨⟩
  exact h

theorem recording_table {t : State} (table : t.hangers = s.hangers) : Recording s (.next t) := recording_next (.of_table table)

/-- Where the last beat left nothing, settling changes no record. -/
theorem settle_idle_hangers (idle : s.due = []) : s.settle.hangers = s.hangers := by
  unfold State.settle
  rw [idle]
  rfl

/-- A host command records what its rule does, whatever becomes of its frame. -/
theorem request_recording (idle : s.due = []) (code : Byte) (p : List Byte) {body : State → Reply}
    (h : ∀ t, Answers (Recorded t) (body t)) : Recording s (.next (s.request code p body)) := by
  have found : (s.takeFrame (3 + p.length)).hangers = s.hangers := settle_idle_hangers (s := s.begin) idle
  refine recording_next ?_
  unfold State.request
  rcases s.endFrame_cases (3 + p.length) _ with ⟨_, e⟩ | ⟨_, e⟩ | ⟨_, _, _, e⟩ <;> rw [e]
  · split
    · exact .of_table found
    · have answer := h (s.takeFrame (3 + p.length))
      generalize body (s.takeFrame (3 + p.length)) = r at answer
      cases answer with
      | accepted records => exact (records.since found).until rfl rfl
      | nothing records => exact (records.since found).until rfl rfl
      | refused => exact .of_table found
  · exact .of_table rfl
  · exact .of_table rfl

/-- A report records what it advances. -/
theorem report_recording (idle : s.due = []) (c : CarriageId) (answers : Order → Bool) {advance : State → State}
    (h : ∀ t, Notes t (advance t)) : Recording s (.next (s.report c answers advance)) := by
  have found : (s.received (.link c)).begin.settle.hangers = s.hangers := settle_idle_hangers (s := (s.received (.link c)).begin) idle
  refine recording_next ?_
  unfold State.report
  dsimp only
  split
  · split
    · exact ((carriage_notes _ c _).trans (h _)).recorded.since found
    · exact (strayReport_notes _ c).recorded.since found
  · exact (strayReport_notes _ c).recorded.since found

/-- A follow-up that was not left is none. -/
theorem takeFollowUp_recording (idle : s.due = []) (e : FollowUp) : Recording s (.next (s.begin.takeFollowUp e)) := by
  have none_left : s.begin.due.contains e = false := by simp [idle]
  refine recording_table ?_
  rw [State.takeFollowUp, none_left]
  rfl

theorem faultReport_recording (idle : s.due = []) (c : CarriageId) (code : Byte) : Recording s (execFaultReport c code s) := by
  have found : (s.received (.link c)).begin.settle.hangers = s.hangers := settle_idle_hangers (s := (s.received (.link c)).begin) idle
  refine recording_next ?_
  split
  · exact .of_table found
  · exact (faultCarriage_notes _ c _ _).recorded.since found

theorem completion_recording (s : State) : Recording s (execCompletion s) := by
  refine recording_table ?_
  split <;> rfl

theorem fetchFrame_recording (s : State) (count : Nat) : Recording s (execFetchFrame count s) := by
  refine recording_table ?_
  split
  · rfl
  · exact fetch_hangers s _

theorem readingFrame_recording (s : State) (frame : List Byte) : Recording s (execReadingFrame frame s) := by
  refine recording_table ?_
  split
  · exact reading_hangers _ _ _
  · rfl

theorem lineStopActive_recording (idle : s.due = []) : Recording s (execLineStopActive s) := by
  refine recording_table ?_
  split
  · rfl
  · exact (lineStop_hangers _).trans (settle_idle_hangers (s := s.begin) idle)

/-- After a reset no slot holds a record (R17). -/
theorem reset_recorded {t : State} (table : t.hangers = State.reset.hangers) : Recorded s t := fun slot h g _ live => by
  rw [table] at live
  simp [State.reset] at live

theorem resetPart_hangers (s : State) : s.resetPart.hangers = State.reset.hangers := by
  unfold State.resetPart
  dsimp only
  split <;> rfl

theorem linkReset_recording (idle : s.due = []) (m : Byte) (p : List Byte) : Recording s (execLinkReset m p s) := by
  have found : (s.takeFrame 3).hangers = s.hangers := settle_idle_hangers (s := s.begin) idle
  unfold execLinkReset
  split
  · refine recording_table ?_
    rcases s.endFrame_cases 3 s.linkReset with ⟨_, e⟩ | ⟨_, e⟩ | ⟨_, _, _, e⟩ <;> rw [e]
    · exact found
    · rfl
    · rfl
  · exact request_recording idle _ _ fun _ => .refused

theorem fullReset_recording (idle : s.due = []) (m : Byte) (p : List Byte) : Recording s (execFullReset m p s) := by
  unfold execFullReset
  split
  · refine recording_next ?_
    rcases s.endFrame_cases 3 { s.resetPart with shifted := s.frameOut 3 } with ⟨_, e⟩ | ⟨_, e⟩ | ⟨_, _, _, e⟩ <;> rw [e]
    · exact reset_recorded (resetPart_hangers s)
    · exact .of_table rfl
    · exact .of_table rfl
  · exact request_recording idle _ _ fun _ => .refused

/-- Each command but a request frame given as bytes records what it changes. -/
theorem exec_recording (idle : s.due = []) (i : Instr) (h : ∀ bytes, i ≠ .requestFrame bytes) : Recording s (exec i s) := by
  have records : ∀ (code : Byte) (p : List Byte) (body : State → Reply), (∀ t, Answers (Recorded t) (body t)) →
      Recording s (.next (s.request code p body)) := fun code p _ => request_recording idle code p
  have leaves : ∀ (code : Byte) (p : List Byte) (body : State → Reply), (∀ t, Leaves t (body t)) →
      Recording s (.next (s.request code p body)) := fun code p body rests => records code p body fun t => (rests t).recorded
  have reads : ∀ (code : Byte) (p : List Byte) (n : State → Nat) (data : State → List Byte),
      Recording s (.next (s.request code p (noPayload p fun t => .accepted t (n t) (data t)))) :=
    fun code p n data => leaves code p _ fun t => answers_noPayload (.accepted rfl)
  cases i with
  | beat =>
    refine recording_next ((beatEffect_notes s).recorded.since ?_)
    exact settle_idle_hangers (s := s.begin) idle
  | reset => exact recording_next (reset_recorded (resetPart_hangers s))
  | lineStopActive => exact lineStopActive_recording idle
  | lineStopInactive => exact recording_table rfl
  | readingFrame frame => exact readingFrame_recording s frame
  | arrived c arg => exact report_recording idle c _ fun t => arrive_notes t c
  | parked c arg => exact report_recording idle c _ fun t => park_notes t c
  | lifted c arg => exact report_recording idle c _ fun t => lifted_notes t c
  | lowered c arg => exact report_recording idle c _ fun t => lowered_notes t c
  | faultReport c code => exact faultReport_recording idle c code
  | orderExpiry c => exact takeFollowUp_recording idle _
  | drainEnd c => exact takeFollowUp_recording idle _
  | runComplete st => exact takeFollowUp_recording idle _
  | completion => exact completion_recording s
  | fetchFrame count => exact fetchFrame_recording s count
  | requestFrame bytes => exact absurd rfl (h bytes)
  | identify m p => exact reads _ p _ _
  | readLine m p => exact reads _ p _ _
  | setLineParameters m p => exact leaves _ p _ (leaves_setLineParameters p)
  | linkReset m p => exact linkReset_recording idle m p
  | fullReset m p => exact fullReset_recording idle m p
  | startLine m p => exact leaves _ p _ fun t => answers_noPayload (leaves_startLine t)
  | stopLine m p => exact leaves _ p _ fun t => answers_noPayload (leaves_stopLine t)
  | pauseLine m p => exact leaves _ p _ fun t => answers_noPayload (leaves_pauseLine t)
  | resume m p => exact records _ p _ fun t => answers_noPayload (resume_records t)
  | setStation m p => exact leaves _ p _ (leaves_setStation p)
  | readStation m p => exact leaves _ p _ (leaves_readStation p)
  | setBayService m p => exact records _ p _ (setBayService_records p)
  | setActivity m p => exact leaves _ p _ (leaves_setActivity p)
  | setBathParameters m p => exact leaves _ p _ (leaves_setBathParameters p)
  | selectBank m p => exact leaves _ p _ (leaves_selectBank p)
  | loadSteps m p => exact leaves _ p _ (leaves_loadSteps m p)
  | readSteps m p => exact reads _ p _ _
  | clearBank m p => exact leaves _ p _ fun t => answers_noPayload (leaves_clearBank m t)
  | setRateTable m p => exact leaves _ p _ (leaves_setRateTable p)
  | readRateTable m p => exact reads _ p _ _
  | admitHanger m p => exact records _ p _ (admit_records m p)
  | retire m p => exact records _ p _ (retire_records p)
  | hold m p => exact records _ p _ (hold_records p)
  | release m p => exact records _ p _ (release_records p)
  | amend m p => exact records _ p _ (amend_records p)
  | setDose m p => exact records _ p _ (setDose_records p)
  | find m p => exact leaves _ p _ (leaves_find p)
  | findMatching m p => exact leaves _ p _ (leaves_findMatching p)
  | readRecords m p => exact leaves _ p _ (leaves_readRecords m p)
  | readQueue m p => exact reads _ p _ _
  | placeCarriage m p => exact leaves _ p _ (leaves_placeCarriage p)
  | recoverCarriage m p => exact records _ p _ (recoverCarriage_records p)
  | disableCarriage m p => exact records _ p _ (disableCarriage_records p)
  | enableCarriage m p => exact records _ p _ (enableCarriage_records p)
  | readCarriage m p => exact leaves _ p _ (leaves_readCarriage p)
  | setChannelMode m p => exact leaves _ p _ (leaves_setChannelMode p)
  | enableOutputs m p => exact leaves _ p _ (leaves_enableOutputs p)
  | setManualOutputs m p => exact leaves _ p _ (leaves_setManualOutputs p)
  | setPattern m p => exact leaves _ p _ (leaves_setPattern p)
  | readOutputs m p => exact reads _ p _ _
  | ack m p => exact leaves _ p _ fun t => answers_noPayload (leaves_ack m t)
  | doneService m p => exact leaves _ p _ fun t => answers_noPayload (leaves_done t)
  | setMask m p => exact leaves _ p _ (leaves_setMask p)
  | setLevel m p => exact leaves _ p _ (leaves_setLevel p)
  | clearMark m p => exact leaves _ p _ (leaves_clearMark p)
  | readMarks m p => exact reads _ p _ _
  | reportFrameDiscarded c => exact recording_table rfl
  | frameBrokenOff line => exact recording_table rfl

theorem refuseFrame_recording (idle : s.due = []) (code : Byte) (n : Nat) (r : Reason) (d : Nat) :
    Recording s (.next (s.refuseFrame code n r d)) := by
  refine recording_table ?_
  unfold State.refuseFrame
  rcases s.endFrame_cases n _ with ⟨_, e⟩ | ⟨_, e⟩ | ⟨_, _, _, e⟩ <;> rw [e]
  · exact settle_idle_hangers (s := s.begin) idle
  · rfl
  · rfl

/-- A request frame given as bytes records what its command does. -/
theorem requestFrame_recording (idle : s.due = []) (bytes : List Byte) : Recording s (execRequestFrame bytes s) := by
  unfold execRequestFrame
  split
  · exact recording_table rfl
  · split
    · exact fetchFrame_recording s _
    · split
      · next i _ =>
        rcases runRequest_cases i s with e | ⟨command, e⟩ <;> rw [e]
        · exact recording_table rfl
        · exact exec_recording idle i command
      · split <;> exact refuseFrame_recording idle _ _ _ _

end

/-- Settles O31: every command notes what it changes in the records, leaves the table as it is, or empties slots; and where nothing is left
to be settled, a request that clears RECORD_CHANGED changes no record. -/
theorem changedRecordsAreMarked : Obligations.ChangedRecordsAreMarked := by
  unfold Obligations.ChangedRecordsAreMarked
  intro i s t slot h g next idle live live' changes
  have recording : Recording s (exec i s) := by
    by_cases bytes : ∃ l, i = .requestFrame l
    · obtain ⟨l, rfl⟩ := bytes
      exact requestFrame_recording idle l
    · exact exec_recording idle i fun l e => bytes ⟨l, e⟩
  refine recording t next slot h g live live' (Bool.eq_true_of_not_eq_false fun same => ?_)
  obtain ⟨state, leg, held, position⟩ := recordChanges_eq_false.1 same
  simp [state, leg, held, position] at changes

end Sys2Proof.Machine.HangerTable
end

section
/-! The work of a beat seen from one slot (R48, R49, R67 to R74): a piece of work on another slot or on a bath leaves the slot's record,
requests and jobs as they are, unless an arbitration in RUN grants the slot's request. -/

namespace Sys2Proof.Machine.HangerTable

open Sys2Proof.Machine.RecipeBanks

/-! ### What a slot keeps -/

/-- A job, whatever its phase. -/
def bare (j : Job) : Job := { j with phase := .toSource }

/-- The settings stand, the record of a slot is left as it is or lifted, and a carriage that is not free keeps its job. -/
structure Tends (slot : Slot) (s t : State) : Prop where
  settings : t.settings = s.settings
  record : ∀ g, s.hangers[slot] = some g → t.hangers[slot] = some g ∨ t.hangers[slot] = some (s.liftedHanger g)
  busy : ∀ c, (s.carriage c).isFree = false →
    (t.carriage c).job.map bare = (s.carriage c).job.map bare ∧ (t.carriage c).isFree = false

/-- The record of a slot and its requests stand, and no carriage has taken up a job of it. -/
structure Apart (slot : Slot) (s t : State) : Prop where
  record : t.hangers[slot] = s.hangers[slot]
  requests : ∀ q : Request, q.slot = slot → (q ∈ t.queue ↔ q ∈ s.queue)
  jobs : ∀ c j, (t.carriage c).job = some j → j.slot = slot → ∃ j', (s.carriage c).job = some j' ∧ j'.slot = slot

/-- A carriage has a request of a slot as its job. -/
def Serves (slot : Slot) (s t : State) : Prop :=
  ∃ c r d, r ∈ s.queue ∧ r.slot = slot ∧ (t.carriage c).job.map bare = some (grantedJob r d) ∧ (t.carriage c).isFree = false

/-- What work elsewhere leaves of a slot: all stands, or in RUN a carriage has taken up a request of it. -/
structure Passes (slot : Slot) (s t : State) : Prop extends Tends slot s t where
  parts : Apart slot s t ∨ s.lineState = .run ∧ Serves slot s t

section

variable {slot : Slot} {s t u : State}

theorem Tends.lineState (m : Tends slot s t) : t.lineState = s.lineState := congrArg Settings.lineState m.settings

theorem Tends.beat (m : Tends slot s t) : t.beat = s.beat := congrArg Settings.beat m.settings

theorem Tends.trans (a : Tends slot s t) (b : Tends slot t u) : Tends slot s u where
  settings := b.settings.trans a.settings
  record g live := by
    have lifted := liftedHanger_of_settings a.settings
    rcases a.record g live with kept | first
    · exact (b.record g kept).imp_right (·.trans (by rw [lifted]))
    · rcases b.record _ first with kept | second
      · exact .inr kept
      · exact .inr (second.trans (by rw [lifted, liftedHanger_twice]))
  busy c h := by
    obtain ⟨first, still⟩ := a.busy c h
    obtain ⟨second, busy⟩ := b.busy c still
    exact ⟨second.trans first, busy⟩

theorem Apart.refl (s : State) : Apart slot s s := ⟨rfl, fun _ _ => .rfl, fun _ j job same => ⟨j, job, same⟩⟩

theorem Apart.trans (a : Apart slot s t) (b : Apart slot t u) : Apart slot s u where
  record := b.record.trans a.record
  requests q same := (b.requests q same).trans (a.requests q same)
  jobs c j job same := by
    obtain ⟨j', job', same'⟩ := b.jobs c j job same
    exact a.jobs c j' job' same'

theorem Passes.trans (a : Passes slot s t) (b : Passes slot t u) : Passes slot s u where
  toTends := a.toTends.trans b.toTends
  parts := by
    rcases a.parts with first | ⟨run, c, r, d, mem, same, job, busy⟩
    · rcases b.parts with second | ⟨run, c, r, d, mem, same, taken⟩
      · exact .inl (first.trans second)
      · exact .inr ⟨a.lineState.symm.trans run, c, r, d, (first.requests r same).1 mem, same, taken⟩
    · obtain ⟨kept, still⟩ := b.busy c busy
      exact .inr ⟨run, c, r, d, mem, same, kept.trans job, still⟩

/-- Writes elsewhere that leave the carriages. -/
theorem Passes.of_same (settings : t.settings = s.settings) (record : t.hangers[slot] = s.hangers[slot])
    (requests : ∀ q : Request, q.slot = slot → (q ∈ t.queue ↔ q ∈ s.queue)) (carriages : ∀ c, t.carriage c = s.carriage c) :
    Passes slot s t where
  settings := settings
  record g live := .inl (record.trans live)
  busy c h := by rw [carriages]; exact ⟨rfl, h⟩
  parts := .inl ⟨record, requests, fun c j job same => ⟨j, by rwa [carriages] at job, same⟩⟩

theorem Passes.refl (s : State) : Passes slot s s := .of_same rfl rfl (fun _ _ => .rfl) fun _ => rfl

/-! ### Elementary writes -/

theorem putHanger_passes (s : State) {i : Slot} (g : Hanger) (other : i ≠ slot) : Passes slot s (s.putHanger i g) :=
  .of_same (State.putHanger_settings ..) ((State.putHanger_get ..).trans (if_neg other.symm))
    (fun q _ => by rw [putHanger_queue]) (State.putHanger_carriage s i g)

theorem mark_passes (s : State) (k : Kind) (n : Nat) : Passes slot s (s.mark k n) :=
  .of_same rfl rfl (fun _ _ => .rfl) fun c => by cases c <;> rfl

theorem setStation_passes (s : State) (st : StationNo) (x : Station) : Passes slot s (s.setStation st x) :=
  .of_same rfl rfl (fun _ _ => .rfl) fun c => by cases c <;> rfl

theorem creditBath_passes (s : State) (st : StationNo) : Passes slot s (s.creditBath st) := by
  unfold State.creditBath
  dsimp only
  split
  · exact .of_same rfl rfl (fun _ _ => .rfl) fun c => by cases c <;> rfl
  · exact setStation_passes s st _

/-! ### The arbiter -/

theorem consider_apart (r : Request) : Apart slot s (s.consider r) ∨ r.slot = slot ∧ ∃ c, Granted c r (s.consider r) := by
  rcases consider_cases s r with e | ⟨c, d, _, e⟩
  · exact .inl (by rw [e]; exact .refl s)
  · have hoists := grant_hoists s c r d
    rw [e]
    by_cases same : r.slot = slot
    · obtain ⟨phase, job⟩ := hoists.job
      exact .inr ⟨same, c, hoists.busy, d, phase, job⟩
    · refine .inl ⟨((grant_hauls s c r d).spared slot (Ne.symm same)).1, fun q own => ?_, fun i j job own => ?_⟩
      · rw [hoists.queue, withoutSlot, List.mem_filter, bne_iff_ne, own]
        exact and_iff_left (Ne.symm same)
      · rcases carriage_or_other c i with rfl | rfl
        · obtain ⟨phase, given⟩ := hoists.job
          rw [given] at job
          cases job
          exact absurd own same
        · rw [hoists.other, withoutSlot_carriage] at job
          exact ⟨j, job, own⟩

theorem walk_apart (l : List Request) (s : State) :
    Apart slot s (l.foldl State.consider s) ∨ ∃ r ∈ l, r.slot = slot ∧ ∃ c, Granted c r (l.foldl State.consider s) := by
  induction l generalizing s with
  | nil => exact .inl (.refl s)
  | cons r l ih =>
    rcases consider_apart (s := s) r with first | ⟨same, c, busy, d, phase, job⟩
    · rcases ih (s.consider r) with rest | ⟨x, mem, granted⟩
      · exact .inl (first.trans rest)
      · exact .inr ⟨x, List.mem_cons_of_mem r mem, granted⟩
    · have kept := walk_busy l busy
      exact .inr ⟨r, List.mem_cons_self, same, c, by rw [List.foldl_cons, kept]; exact busy, d, phase, by
        rw [List.foldl_cons, kept]; exact job⟩

/-- At an arbitration all of a slot stands, or in RUN a request of it is granted (R113, R118). -/
theorem arbitrate_passes (s : State) : Passes slot s s.arbitrate where
  settings := (arbitrate_hauls s).settings
  record g live := (arbitrate_hauls s).record live
  busy c h := by rw [arbitrate_busy h]; exact ⟨rfl, h⟩
  parts := by
    by_cases run : s.lineState = .run
    · have y := arbitrate_run run
      rcases walk_apart (slot := slot) s.queueOrder s with rest | ⟨r, mem, same, c, busy, d, phase, job⟩
      · refine .inl (rest.trans ⟨by rw [y.table], fun q _ => by rw [y.queue], fun c j job same => ⟨j, ?_, same⟩⟩)
        rwa [y.jobs] at job
      · refine .inr ⟨run, c, r, d, mem_queueOrder mem, same, ?_, y.busy c busy⟩
        rw [y.jobs, job]
        rfl
    · exact .inl (by rw [arbitrate_idle run]; exact .refl s)

theorem mem_insertRequest_other {q r : Request} (other : q.slot ≠ r.slot) (l : List Request) : q ∈ insertRequest r l ↔ q ∈ l := by
  have apart : q ≠ r := fun e => other (congrArg Request.slot e)
  induction l with
  | nil => simp [insertRequest, apart]
  | cons x l ih =>
    unfold insertRequest
    split
    · simp [apart]
    · split
      · next here =>
        have gone : q ≠ x := fun e => other ((congrArg Request.slot e).trans here.symm)
        simp [apart, gone]
      · simp only [List.mem_cons, ih]

theorem resolvedAt_settings {i : Slot} {g : Hanger} {cls : RequestClass} {b : Beat} {src e : BayRef} :
    (resolvedAt s i g cls b src e).settings = s.settings := State.putHanger_settings ..

theorem resolvedAt_carriage {i : Slot} {g : Hanger} {cls : RequestClass} {b : Beat} {src e : BayRef} (c : CarriageId) :
    (resolvedAt s i g cls b src e).carriage c = s.carriage c :=
  (by cases c <;> rfl : _ = (s.reserve i g e).carriage c).trans ((State.putHanger_carriage _ i _ c).trans (by cases c <;> rfl))

theorem pendingAt_settings {i : Slot} {g : Hanger} {cls : RequestClass} {b : Beat} {src : BayRef} :
    (pendingAt s i g cls b src).settings = s.settings := by
  unfold pendingAt
  dsimp only
  split <;> rfl

theorem lodge_passes (s : State) {i : Slot} (cls : RequestClass) (b : Beat) (other : i ≠ slot) : Passes slot s (s.lodge i cls b) := by
  cases live : s.hangers[i] with
  | none => simpa only [State.lodge, live] using .refl s
  | some g =>
    obtain place | ⟨src, place⟩ := Option.eq_none_or_eq_some g.position
    · rw [lodge_unplaced cls b live place]
      exact .refl s
    · have queue : ∀ (d : Option BayRef) (q : Request), q.slot = slot → (q ∈ insertRequest ⟨i, cls, b, src, d⟩ s.queue ↔ q ∈ s.queue) :=
        fun d q own => mem_insertRequest_other (by rw [own]; exact other.symm) s.queue
      rcases lodge_cases live place cls b with ⟨e, _, resolved⟩ | pending
      · rw [resolved]
        refine Passes.trans (.of_same resolvedAt_settings ?_ (queue _) resolvedAt_carriage) (arbitrate_passes _)
        rw [resolvedAt_get, if_neg other.symm]
      · obtain ⟨table, _, requests, _, carriages⟩ := pendingAt_parts (s := s) (slot := i) (h := g) (cls := cls) (b := b) (src := src)
        rw [pending]
        exact .of_same pendingAt_settings (by rw [table]) (fun q own => by rw [requests, queue _ q own]) carriages

/-! ### The signal -/

theorem signalCarriage_cases (s : State) (i : Slot) (c : CarriageId) : s.signalCarriage i c = s ∨
    ∃ j, (s.carriage c).job = some j ∧ j.slot = i ∧ s.signalCarriage i c = s.liftOrder c := by
  unfold State.signalCarriage
  split
  · next ready =>
    obtain ⟨_, waits⟩ := ready
    unfold State.signalReady at waits
    split at waits
    · next j job =>
      simp only [Bool.and_eq_true, beq_iff_eq] at waits
      exact .inr ⟨j, job, waits.1.2, rfl⟩
    · simp at waits
  · exact .inl rfl

theorem signalCarriage_tends (s : State) (i : Slot) (c : CarriageId) : Tends slot s (s.signalCarriage i c) where
  settings := (signalCarriage_hauls s i c).settings
  record g live := (signalCarriage_hauls s i c).record live
  busy x h := by
    rcases signalCarriage_cases s i c with e | ⟨j, job, _, e⟩ <;> rw [e]
    · exact ⟨rfl, h⟩
    · have hoists := liftOrder_hoists job
      rcases carriage_or_other c x with rfl | rfl
      · obtain ⟨phase, given⟩ := hoists.job
        rw [given, job]
        exact ⟨rfl, hoists.busy⟩
      · rw [hoists.other]
        exact ⟨rfl, h⟩

theorem signal_tends (s : State) (i : Slot) : Tends slot s (s.signal i) :=
  (signalCarriage_tends s i .one).trans (signalCarriage_tends _ i .two)

theorem signalCarriage_apart (s : State) {i : Slot} (c : CarriageId) (other : i ≠ slot) : Apart slot s (s.signalCarriage i c) := by
  refine ⟨((signalCarriage_hauls s i c).spared slot other.symm).1, ?_, ?_⟩ <;>
    rcases signalCarriage_cases s i c with e | ⟨j, job, own, e⟩ <;> rw [e]
  · exact fun _ _ => .rfl
  · exact fun q _ => by rw [(liftOrder_hoists job).queue]
  · exact fun _ j job same => ⟨j, job, same⟩
  · intro x j' job' same
    rcases carriage_or_other c x with rfl | rfl
    · obtain ⟨phase, given⟩ := (liftOrder_hoists job).job
      rw [given] at job'
      cases job'
      exact ⟨j, job, same⟩
    · rw [(liftOrder_hoists job).other] at job'
      exact ⟨j', job', same⟩

theorem signal_passes (s : State) {i : Slot} (other : i ≠ slot) : Passes slot s (s.signal i) where
  toTends := signal_tends s i
  parts := .inl ((signalCarriage_apart s .one other).trans (signalCarriage_apart _ .two other))

/-! ### The pieces of work -/

theorem callPoint_passes (s : State) {i : Slot} (g : Hanger) (n : Nat) (other : i ≠ slot) : Passes slot s (s.callPoint i g n) := by
  unfold State.callPoint
  split
  · exact .refl s
  · split
    · exact (putHanger_passes s _ other).trans (lodge_passes _ _ _ other)
    · exact .refl s

/-- The slot a piece of work is on. -/
def taskSlot : BeatTask → Option Slot
  | .develop i => some i
  | .minimum i => some i
  | .overstay i => some i
  | .credit _ => none

/-- A piece of work elsewhere passes a slot by. -/
theorem takeTask_passes (s : State) {e : BeatTask} (other : taskSlot e ≠ some slot) : Passes slot s (s.takeTask e) := by
  cases e with
  | develop i =>
    have other : i ≠ slot := fun e => other (congrArg some e)
    have called := fun t g n => (callPoint_passes t g n other).trans (signal_passes _ other)
    unfold State.takeTask State.developSlot
    dsimp only
    split
    · exact .refl s
    · split
      · exact .refl s
      · split
        · split
          · exact ((putHanger_passes s _ other).trans (mark_passes _ _ _)).trans (called _ _ _)
          · exact (putHanger_passes s _ other).trans (called _ _ _)
        · exact .refl s
  | minimum i =>
    have other : i ≠ slot := fun e => other (congrArg some e)
    unfold State.takeTask State.minimumSlot
    dsimp only
    repeat' split
    case isTrue => exact (putHanger_passes s _ other).trans (lodge_passes _ _ _ other)
    all_goals exact .refl s
  | overstay i =>
    have other : i ≠ slot := fun e => other (congrArg some e)
    unfold State.takeTask State.overstaySlot
    dsimp only
    repeat' split
    case isTrue => exact (putHanger_passes s _ other).trans (mark_passes _ _ _)
    all_goals exact .refl s
  | credit st => exact creditBath_passes s st

end

end Sys2Proof.Machine.HangerTable
end

section
/-! The pieces of a beat's work in the order they are taken (R48, R49, R68, R86; log 5), and what they find: each is taken once, on the state
in which the readings have aged and the pump runs started and counted. -/

namespace Sys2Proof.Machine.HangerTable

open Sys2Proof.Machine.RecipeBanks

/-! ### The list of the work -/

theorem placeTask_perm (key : BeatTask → Nat) (e : BeatTask) (l : List BeatTask) : (placeTask key e l).Perm (e :: l) := by
  induction l with
  | nil => exact .refl _
  | cons x l ih =>
    unfold placeTask
    split
    · exact .refl _
    · exact (ih.cons x).trans (.swap e x l)

theorem ordered_perm (key : BeatTask → Nat) (l : List BeatTask) : (ordered key l).Perm l := by
  induction l with
  | nil => exact .refl _
  | cons x l ih => exact (placeTask_perm key x _).trans (ih.cons x)

theorem mem_slotsWhere {f : Hanger → Bool} {s : State} {slot : Slot} :
    slot ∈ s.slotsWhere f ↔ ∃ h, s.hangers[slot] = some h ∧ f h = true := by
  unfold State.slotsWhere allSlots
  rw [List.mem_filter]
  refine (and_iff_right (List.mem_finRange slot)).trans ?_
  split
  · next h live => simp [live]
  · next vacant => simp [vacant]

theorem slotsWhere_nodup (f : Hanger → Bool) (s : State) : (s.slotsWhere f).Nodup := (List.nodup_finRange 48).filter _

section

variable {credits : List StationNo} {s : State} {slot : Slot}

theorem develop_mem : .develop slot ∈ s.beatTasks credits ↔ ∃ h, s.hangers[slot] = some h ∧ s.developing h = true := by
  simp [State.beatTasks, mem_slotsWhere]

theorem minimum_mem : .minimum slot ∈ s.beatTasks credits ↔ ∃ h, s.hangers[slot] = some h ∧ s.waitsMinimum h = true := by
  simp [State.beatTasks, mem_slotsWhere]

theorem overstay_mem : .overstay slot ∈ s.beatTasks credits ↔ ∃ h, s.hangers[slot] = some h ∧ s.watchesOverstay h = true := by
  simp [State.beatTasks, mem_slotsWhere]

theorem credit_mem {st : StationNo} : .credit st ∈ s.beatTasks credits ↔ st ∈ credits := by simp [State.beatTasks]

theorem beatTasks_nodup (once : credits.Nodup) : (s.beatTasks credits).Nodup := by
  unfold State.beatTasks
  simp only [List.nodup_append, List.mem_append, List.mem_map]
  have slots := fun f => slotsWhere_nodup f s
  refine ⟨⟨⟨(slots _).map fun _ _ e => BeatTask.develop.inj e, (slots _).map fun _ _ e => BeatTask.minimum.inj e, ?_⟩,
    (slots _).map fun _ _ e => BeatTask.overstay.inj e, ?_⟩, once.map fun _ _ e => BeatTask.credit.inj e, ?_⟩
  · rintro _ ⟨_, _, rfl⟩ _ ⟨_, _, rfl⟩ ⟨⟩
  · rintro _ (⟨_, _, rfl⟩ | ⟨_, _, rfl⟩) _ ⟨_, _, rfl⟩ ⟨⟩
  · rintro _ ((⟨_, _, rfl⟩ | ⟨_, _, rfl⟩) | ⟨_, _, rfl⟩) _ ⟨_, _, rfl⟩ ⟨⟩

end

/-! ### The work taken in turn -/

/-- What every piece of the work keeps, the work keeps. -/
theorem work_keeps {P : State → Prop} {l : List BeatTask} (keeps : ∀ e ∈ l, ∀ s, P s → P (s.takeTask e)) {s : State} (h : P s) :
    P (l.foldl State.takeTask s) := by
  induction l generalizing s with
  | nil => exact h
  | cons e l ih => exact ih (fun x mem => keeps x (List.mem_cons_of_mem e mem)) (keeps e List.mem_cons_self s h)

/-- A piece of the work that is taken once turns what the others keep before it into what they keep after it. -/
theorem work_turns {P Q : State → Prop} {l : List BeatTask} {own : BeatTask} (once : l.Nodup) (mem : own ∈ l)
    (before : ∀ e ∈ l, e ≠ own → ∀ s, P s → P (s.takeTask e)) (turn : ∀ s, P s → Q (s.takeTask own))
    (after : ∀ e ∈ l, e ≠ own → ∀ s, Q s → Q (s.takeTask e)) {s : State} (h : P s) : Q (l.foldl State.takeTask s) := by
  obtain ⟨first, last, rfl⟩ := List.append_of_mem mem
  obtain ⟨_, rest, apart⟩ := List.nodup_append.1 once
  have later := (List.nodup_cons.1 rest).1
  rw [List.foldl_append, List.foldl_cons]
  refine work_keeps (fun e inLast => after e (by simp [inLast]) fun same => later (same ▸ inLast)) (turn _ ?_)
  exact work_keeps (fun e inFirst => before e (by simp [inFirst]) (apart e inFirst own List.mem_cons_self)) h

theorem takeTask_settings (s : State) (e : BeatTask) : (s.takeTask e).settings = s.settings :=
  (s.takeTask_moves (R := fun _ _ => True) (S := fun _ _ => True) (fun _ _ _ => trivial) (fun _ _ _ => trivial)
    (fun _ _ _ => trivial) (fun _ => trivial) e).settings

/-! ### What the work finds -/

/-- The settings, the table, the queue and the carriages stand. -/
structure Still (s t : State) : Prop where
  settings : t.settings = s.settings
  hangers : t.hangers = s.hangers
  queue : t.queue = s.queue
  carriages : ∀ c, t.carriage c = s.carriage c

theorem Still.trans {s t u : State} (a : Still s t) (b : Still t u) : Still s u :=
  ⟨b.settings.trans a.settings, b.hangers.trans a.hangers, b.queue.trans a.queue, fun c => (b.carriages c).trans (a.carriages c)⟩

theorem Still.fold {α : Type} (f : State → α → State) (hf : ∀ s a, Still s (f s a)) (l : List α) (s : State) : Still s (l.foldl f s) := by
  induction l generalizing s with
  | nil => exact ⟨rfl, rfl, rfl, fun _ => rfl⟩
  | cons a l ih => exact (hf s a).trans (ih _)

theorem setStation_still (s : State) (st : StationNo) (x : Station) : Still s (s.setStation st x) :=
  ⟨rfl, rfl, rfl, fun c => by cases c <;> rfl⟩

theorem ageStation_still (s : State) (st : StationNo) : Still s (s.ageStation st) := by
  unfold State.ageStation
  dsimp only
  split
  · exact ⟨rfl, rfl, rfl, fun c => by cases c <;> rfl⟩
  · exact setStation_still s st _

/-- The state on which the work of a beat begins. -/
def workState (s : State) : State := s.found.counted.ageReadings.startRuns.countRuns

/-- The credits made within a beat (R86; log 6). -/
def creditsInside (s : State) : List StationNo :=
  s.found.counted.ageReadings.startRuns.completing.filter fun st => Config.creditInside s.draws st.val

/-- The work of a beat, in the order it is taken. -/
def workOf (s : State) : List BeatTask :=
  ordered (fun e => Config.beatKey s.draws e.number) ((workState s).beatTasks (creditsInside s))

theorem beatEffect_eq (s : State) : ∃ (running : List PumpNo) (due : List FollowUp),
    s.beatEffect = { ((workOf s).foldl State.takeTask (workState s)).transfer running with draws := s.draws + 1, due := due } :=
  ⟨_, _, rfl⟩

theorem workState_still (s : State) : Still s.found.counted (workState s) :=
  ((Still.fold _ ageStation_still _ _).trans (Still.fold _ (fun t st => setStation_still t st _) _ _)).trans
    (Still.fold _ (fun t st => setStation_still t st _) _ _)

theorem found_settings (s : State) : s.found.settings = { s.settings with due := [] } :=
  (s.begin.settle_moves (R := fun _ _ => True) (S := fun _ _ => True) (fun _ => trivial) fun _ _ _ => trivial).settings

theorem workState_settings (s : State) : (workState s).settings = { s.settings with due := [], prescaler := 0, beat := s.beat + 1 } := by
  have found := found_settings s
  rw [(workState_still s).settings, State.counted]
  simp only [State.settings, Settings.mk.injEq] at found ⊢
  obtain ⟨_, beat, rest⟩ := found
  exact ⟨trivial, by rw [beat], rest⟩

theorem workOf_nodup (s : State) : (workOf s).Nodup := by
  rw [workOf, (ordered_perm _ _).nodup_iff]
  exact beatTasks_nodup (((List.nodup_finRange 16).filter _).filter _)

theorem mem_workOf {s : State} {e : BeatTask} : e ∈ workOf s ↔ e ∈ (workState s).beatTasks (creditsInside s) := (ordered_perm _ _).mem_iff

/-- After the work the transfer moves channels alone. -/
structure Ends (s t : State) : Prop where
  hangers : t.hangers = s.hangers
  queue : t.queue = s.queue
  carriages : ∀ c, t.carriage c = s.carriage c
  marks : t.marks = s.marks

theorem transfer_ends (s : State) (running : List PumpNo) (n : Nat) (due : List FollowUp) :
    Ends s { s.transfer running with draws := n, due := due } where
  hangers := by simp only [State.transfer]
  queue := by simp only [State.transfer]
  carriages c := by cases c <;> simp only [State.transfer, State.carriage]
  marks := by simp only [State.transfer]

theorem beat_ends (s : State) : Ends ((workOf s).foldl State.takeTask (workState s)) s.beatEffect := by
  obtain ⟨running, due, effect⟩ := beatEffect_eq s
  rw [effect]
  exact transfer_ends _ running _ due

end Sys2Proof.Machine.HangerTable
end

section
/-! A record whose time comes at a beat (R48, R71, R72): alone before its test, and called after it. -/

namespace Sys2Proof.Machine.HangerTable

open Sys2Proof.Machine.RecipeBanks

/-- The record of a slot is as `P` says, no carriage has a job of the slot, and in RUN each request of it is as `Q` says. -/
structure Unmoved (slot : Slot) (P : Hanger → Prop) (Q : Request → Prop) (s : State) : Prop where
  record : ∃ g, s.hangers[slot] = some g ∧ P g
  jobs : ∀ c j, (s.carriage c).job = some j → j.slot ≠ slot
  asks : s.lineState = .run → ∀ q ∈ s.queue, q.slot = slot → Q q

/-- A record without job, and in RUN without request. -/
abbrev Alone (slot : Slot) (P : Hanger → Prop) (s : State) : Prop := Unmoved slot P (fun _ => False) s

/-- What the request of a test says: its class, its deadline and its source (R48, R72). -/
structure Call where
  cls : RequestClass
  deadline : Beat
  source : BayRef

/-- A request is the one a test has called for. -/
def Call.asks (x : Call) (q : Request) : Prop := q.cls = x.cls ∧ q.deadline = x.deadline ∧ q.source = x.source

/-- The record is DUE with its request in the queue. -/
structure Waits (slot : Slot) (x : Call) (s : State) : Prop extends Unmoved slot (fun g => g.state = .due) x.asks s where
  request : ∃ q ∈ s.queue, q.slot = slot ∧ x.asks q

/-- In RUN a carriage has the request as its job, and the record is DUE or lifted. -/
structure Served (slot : Slot) (x : Call) (s : State) : Prop where
  run : s.lineState = .run
  record : ∃ g, s.hangers[slot] = some g ∧ (g.state = .due ∨ g.state = .inTransit)
  job : ∃ c r d, (s.carriage c).job.map bare = some (grantedJob r d) ∧ (s.carriage c).isFree = false ∧ r.slot = slot ∧ x.asks r

/-- The record has been called: its request waits in the queue, or has been taken up. -/
def Called (slot : Slot) (x : Call) (s : State) : Prop := Waits slot x s ∨ Served slot x s

section

variable {slot : Slot} {P : Hanger → Prop} {Q : Request → Prop} {x : Call} {s t : State}

/-! ### Work elsewhere -/

theorem Unmoved.of_apart (h : Unmoved slot P Q s) (line : t.lineState = s.lineState) (a : Apart slot s t) : Unmoved slot P Q t where
  record := by rw [a.record]; exact h.record
  jobs c j job same := by
    obtain ⟨j', job', same'⟩ := a.jobs c j job same
    exact h.jobs c j' job' same'
  asks run q mem same := h.asks (line.symm.trans run) q ((a.requests q same).1 mem) same

/-- Work elsewhere leaves a record alone. -/
theorem Alone.passes (h : Alone slot P s) (m : Passes slot s t) : Alone slot P t := by
  rcases m.parts with apart | ⟨run, _, r, _, mem, same, _⟩
  · exact h.of_apart m.lineState apart
  · exact (h.asks run r mem same).elim

theorem Served.tends (h : Served slot x s) (m : Tends slot s t) : Served slot x t := by
  obtain ⟨run, ⟨g, live, state⟩, c, r, d, job, busy, rest⟩ := h
  obtain ⟨kept, still⟩ := m.busy c busy
  refine ⟨m.lineState.trans run, ?_, c, r, d, kept.trans job, still, rest⟩
  rcases m.record g live with same | lifted
  · exact ⟨g, same, state⟩
  · exact ⟨_, lifted, .inr rfl⟩

/-- Work elsewhere leaves a record called. -/
theorem Called.passes (h : Called slot x s) (m : Passes slot s t) : Called slot x t := by
  rcases h with waits | served
  · obtain ⟨q, mem, same, asks⟩ := waits.request
    rcases m.parts with apart | ⟨run, c, r, d, inQueue, own, job, busy⟩
    · exact .inl ⟨waits.of_apart m.lineState apart, q, (apart.requests q same).2 mem, same, asks⟩
    · obtain ⟨g, live, due⟩ := waits.record
      refine .inr ⟨m.lineState.trans run, ?_, c, r, d, job, busy, own, waits.asks run r inQueue own⟩
      rcases m.record g live with kept | lifted
      · exact ⟨g, kept, .inl due⟩
      · exact ⟨_, lifted, .inr rfl⟩
  · exact .inr (served.tends m.toTends)

/-- The signal for a record that has been called reaches no carriage but the one that has its request as its job (R73). -/
theorem Called.signal (h : Called slot x s) : Called slot x (s.signal slot) := by
  rcases h with waits | served
  · rw [signal_silent waits.jobs]
    exact .inl waits
  · exact .inr (served.tends (signal_tends s slot))

/-! ### The record written -/

theorem Unmoved.write (h : Unmoved slot P Q s) {R : Hanger → Prop} {g : Hanger} (holds : R g) :
    Unmoved slot R Q (s.putHanger slot g) where
  record := ⟨g, (State.putHanger_get ..).trans (if_pos rfl), holds⟩
  jobs c j := by rw [State.putHanger_carriage]; exact h.jobs c j
  asks run := by
    have line : (s.putHanger slot g).lineState = s.lineState := congrArg Settings.lineState (s.putHanger_settings slot g)
    rw [putHanger_queue]
    exact h.asks (line.symm.trans run)

/-- A record written with its state kept stays called. -/
theorem Called.write (h : Called slot x s) {g g' : Hanger} (live : s.hangers[slot] = some g) (state : g'.state = g.state) :
    Called slot x (s.putHanger slot g') := by
  have line : (s.putHanger slot g').lineState = s.lineState := congrArg Settings.lineState (s.putHanger_settings slot g')
  rcases h with waits | ⟨run, ⟨h, found, place⟩, c, r, d, job⟩
  · obtain ⟨h, found, due⟩ := waits.record
    cases live.symm.trans found
    exact .inl ⟨waits.toUnmoved.write (state.trans due), by rw [putHanger_queue]; exact waits.request⟩
  · cases live.symm.trans found
    refine .inr ⟨line.trans run, ⟨g', (State.putHanger_get ..).trans (if_pos rfl), by rwa [state]⟩, c, r, d, ?_⟩
    rwa [State.putHanger_carriage]

/-! ### The request lodged -/

theorem mem_of_insertRequest {q r : Request} {l : List Request} (mem : q ∈ insertRequest r l) : q = r ∨ q ∈ l := by
  induction l with
  | nil => simpa [insertRequest] using mem
  | cons y l ih =>
    unfold insertRequest at mem
    split at mem
    · exact List.mem_cons.1 mem
    · split at mem
      · exact (List.mem_cons.1 mem).imp_right (List.mem_cons_of_mem y)
      · rcases List.mem_cons.1 mem with rfl | rest
        · exact .inr List.mem_cons_self
        · exact (ih rest).imp_right (List.mem_cons_of_mem y)

/-- A DUE record that is alone is called when its request is lodged (R94, R113). -/
theorem Alone.lodge {r : BayRef} (h : Alone slot (fun g => g.state = .due ∧ g.position = some r) s) (cls : RequestClass) (b : Beat) :
    Called slot ⟨cls, b, r⟩ (s.lodge slot cls b) := by
  obtain ⟨⟨g, live, due, place⟩, jobs, asks⟩ := h
  have waits : ∀ (d : Option BayRef) (t : State), t.settings = s.settings → (∃ g', t.hangers[slot] = some g' ∧ g'.state = .due) →
      t.queue = insertRequest ⟨slot, cls, b, r, d⟩ s.queue → (∀ c, t.carriage c = s.carriage c) → Waits slot ⟨cls, b, r⟩ t := by
    intro d t settings record queue carriages
    have line : t.lineState = s.lineState := congrArg Settings.lineState settings
    refine ⟨⟨record, fun c j job => jobs c j (by rwa [carriages] at job), fun run q mem same => ?_⟩, ?_⟩
    · rw [queue] at mem
      rcases mem_of_insertRequest mem with rfl | old
      · exact ⟨rfl, rfl, rfl⟩
      · exact (asks (line.symm.trans run) q old same).elim
    · rw [queue]
      exact ⟨_, mem_insertRequest _ _, rfl, rfl, rfl, rfl⟩
  rcases lodge_cases live place cls b with ⟨e, _, resolved⟩ | pending
  · rw [resolved]
    refine Called.passes (.inl (waits (some e) _ resolvedAt_settings ?_ rfl resolvedAt_carriage)) (arbitrate_passes _)
    exact ⟨{ g with destination := some e }, by rw [resolvedAt_get, if_pos rfl], due⟩
  · obtain ⟨table, _, queue, _, carriages⟩ := pendingAt_parts (s := s) (slot := slot) (h := g) (cls := cls) (b := b) (src := r)
    rw [pending]
    exact .inl (waits none _ pendingAt_settings ⟨g, by rw [table]; exact live, due⟩ queue carriages)

end

/-! ### The tests of the slot itself -/

section

variable {slot : Slot} {s : State} {g : Hanger} {k : Step}

theorem minimumSlot_eq (live : s.hangers[slot] = some g) (leg : s.legStep g = some k) : s.minimumSlot slot =
    if s.waitsMinimum g = true ∧ minimumReached s.beat g.stepStart k = true then
      (s.putHanger slot { g with state := .due }).lodge slot k.kind.requestClass (minimumDeadline g.stepStart k)
    else s := by
  simp only [State.minimumSlot, live, leg]

theorem overstaySlot_eq (live : s.hangers[slot] = some g) (leg : s.legStep g = some k) : s.overstaySlot slot =
    if s.watchesOverstay g = true ∧ ((k.time + k.maxOverstay) * 8 : Nat) < beatDiff s.beat g.stepStart then
      (s.putHanger slot { g with overstayNoted := true }).mark .overstay slot.val
    else s := by
  simp only [State.overstaySlot, live, leg]

theorem developSlot_idle (live : s.hangers[slot] = some g) (other : s.developing g = false) : s.developSlot slot = s := by
  simp only [State.developSlot, live, other]
  split <;> rfl

theorem legKind_of_step (leg : s.legStep g = some k) : s.legKind g = some k.kind := by simp [State.legKind, leg]

theorem waitsMinimum_iff (leg : s.legStep g = some k) :
    s.waitsMinimum g = true ↔ g.state = .immersed ∧ g.held = false ∧ k.kind ≠ .exactDose := by
  simp [State.waitsMinimum, legKind_of_step leg, and_assoc]

theorem watchesOverstay_iff (leg : s.legStep g = some k) :
    s.watchesOverstay g = true ↔ (g.state = .immersed ∨ g.state = .due) ∧ g.overstayNoted = false ∧ k.kind = .timed := by
  simp [State.watchesOverstay, legKind_of_step leg, and_assoc]

end

end Sys2Proof.Machine.HangerTable
end

section
/-! On a beat a record whose time has come leaves IMMERSED with its request lodged, one whose time has not come stays, and an overstay is
noted (R48, R49, R71, R72). -/

namespace Sys2Proof.Machine.HangerTable

open Sys2Proof.Machine.RecipeBanks

/-! ### The work on the slot itself -/

section

variable {slot : Slot} {x : Call} {s t d : State} {h : Hanger} {e : BeatTask}

theorem task_own (own : taskSlot e = some slot) : e = .develop slot ∨ e = .minimum slot ∨ e = .overstay slot := by
  cases e <;> simp_all [taskSlot]

theorem overstaySlot_cases (s : State) (slot : Slot) : s.overstaySlot slot = s ∨ ∃ g, s.hangers[slot] = some g ∧
    s.overstaySlot slot = (s.putHanger slot { g with overstayNoted := true }).mark .overstay slot.val := by
  unfold State.overstaySlot
  split
  · exact .inl rfl
  · next g live =>
    split
    · exact .inl rfl
    · split
      · exact .inr ⟨g, live, rfl⟩
      · exact .inl rfl

/-- A record as another, but for the noted flag. -/
def NotedOf (h g : Hanger) : Prop := ∃ n, g = { h with overstayNoted := n }

/-- Until its own test a record stays alone, though an overstay may be noted (R49). -/
theorem Alone.task (a : Alone slot (NotedOf h) s) (only : taskSlot e = some slot → e = .overstay slot) :
    Alone slot (NotedOf h) (s.takeTask e) := by
  by_cases own : taskSlot e = some slot
  · cases only own
    show Alone slot (NotedOf h) (s.overstaySlot slot)
    rcases overstaySlot_cases s slot with same | ⟨g, live, written⟩
    · rwa [same]
    · obtain ⟨g', live', _, rfl⟩ := a.record
      cases live.symm.trans live'
      rw [written]
      exact Alone.passes (a.write ⟨true, rfl⟩) (mark_passes _ _ _)
  · exact Alone.passes a (takeTask_passes s own)

/-- A record that has been called stays so, though an overstay may be noted. -/
theorem Called.task (a : Called slot x s) (only : taskSlot e = some slot → e = .overstay slot) : Called slot x (s.takeTask e) := by
  by_cases own : taskSlot e = some slot
  · cases only own
    show Called slot x (s.overstaySlot slot)
    rcases overstaySlot_cases s slot with same | ⟨g, live, written⟩
    · rwa [same]
    · rw [written]
      exact (a.write (g' := { g with overstayNoted := true }) live rfl).passes (mark_passes _ _ _)
  · exact a.passes (takeTask_passes s own)

/-! ### What is shown after the beat -/

theorem bare_eq {j : Job} {r : Request} {d : BayRef} (same : bare j = grantedJob r d) :
    j.slot = r.slot ∧ j.cls = r.cls ∧ j.deadline = r.deadline ∧ j.source = r.source := by
  simp only [bare, grantedJob, Job.mk.injEq] at same
  obtain ⟨slot, cls, deadline, source, _⟩ := same
  exact ⟨slot, cls, deadline, source⟩

theorem Called.shown (a : Called slot x d) (ends : Ends d t) : ∃ h', t.hangers[slot] = some h' ∧
    ((h'.state = .due ∧ ∃ q ∈ t.queue, q.slot = slot ∧ q.cls = x.cls ∧ q.deadline = x.deadline ∧ q.source = x.source) ∨
      (d.lineState = .run ∧ (h'.state = .due ∨ h'.state = .inTransit) ∧ ∃ c j, (t.carriage c).job = some j ∧ j.slot = slot ∧
        j.cls = x.cls ∧ j.deadline = x.deadline ∧ j.source = x.source)) := by
  rw [ends.hangers, ends.queue]
  rcases a with waits | ⟨run, ⟨g, live, state⟩, c, r, dest, job, _, own, cls, deadline, source⟩
  · obtain ⟨g, live, due⟩ := waits.record
    obtain ⟨q, mem, same, cls, deadline, source⟩ := waits.request
    exact ⟨g, live, .inl ⟨due, q, mem, same, cls, deadline, source⟩⟩
  · obtain ⟨j, taken, same⟩ := Option.map_eq_some_iff.1 job
    obtain ⟨slot', cls', deadline', source'⟩ := bare_eq same
    exact ⟨g, live, .inr ⟨run, state, c, j, by rw [ends.carriages]; exact taken, slot'.trans own, cls'.trans cls,
      deadline'.trans deadline, source'.trans source⟩⟩

end

/-! ### The record found -/

section

variable {s : State} {slot : Slot} {h : Hanger} {r : BayRef} {k : Step}

theorem workState_hangers (s : State) : (workState s).hangers = s.found.hangers := (workState_still s).hangers

theorem lineState_of_settings {u : State} {x : Settings} (settings : u.settings = x) : u.lineState = x.lineState :=
  congrArg Settings.lineState settings

theorem beat_of_settings {u : State} {x : Settings} (settings : u.settings = x) : u.beat = x.beat := congrArg Settings.beat settings

theorem banks_of_settings {u : State} {x : Settings} (settings : u.settings = x) : u.banks = x.banks := congrArg Settings.banks settings

theorem workState_lineState (s : State) : (workState s).lineState = s.lineState := lineState_of_settings (workState_settings s)

theorem workState_beat (s : State) : (workState s).beat = s.beat + 1 := beat_of_settings (workState_settings s)

theorem workState_legStep (s : State) (h : Hanger) : (workState s).legStep h = s.found.legStep h :=
  legStep_congr ((banks_of_settings (workState_settings s)).trans (banks_of_settings (found_settings s)).symm) rfl rfl

theorem workState_alone (live : s.found.hangers[slot] = some h) (jobs : ∀ c j, (s.found.carriage c).job = some j → j.slot ≠ slot)
    (asks : s.lineState = .run → ∀ q ∈ s.found.queue, q.slot ≠ slot) : Alone slot (NotedOf h) (workState s) where
  record := ⟨h, by rw [workState_hangers]; exact live, h.overstayNoted, rfl⟩
  jobs c j job := jobs c j <| by
    rw [(workState_still s).carriages] at job
    cases c <;> exact job
  asks run q mem := by
    rw [workState_lineState] at run
    rw [(workState_still s).queue] at mem
    exact asks run q mem

/-- The settings stand while the work is taken, so that the step of a leg is that which the beat found. -/
theorem legStep_noted {c u : State} {g : Hanger} (settings : u.settings = c.settings) (leg : c.legStep h = some k) (of : NotedOf h g) :
    u.legStep g = some k := by
  obtain ⟨_, rfl⟩ := of
  exact (legStep_congr (congrArg Settings.banks settings) rfl rfl).trans leg

end

/-! ### TIMED and OPEN legs -/

section

variable {s : State} {slot : Slot} {h : Hanger} {r : BayRef} {k : Step}

/-- While the work is taken: the settings stand, and the record is alone. -/
structure Early (slot : Slot) (h : Hanger) (c u : State) : Prop where
  settings : u.settings = c.settings
  alone : Alone slot (NotedOf h) u

theorem Early.task {c u : State} (a : Early slot h c u) {e : BeatTask} (only : taskSlot e = some slot → e = .overstay slot) :
    Early slot h c (u.takeTask e) :=
  ⟨(takeTask_settings u e).trans a.settings, a.alone.task only⟩

/-- The record is not developing, so that the test of its slot for a minimum is the only work on it but the noting of an overstay. -/
theorem not_developed (live : s.found.hangers[slot] = some h) (leg : s.found.legStep h = some k) (other : k.kind ≠ .exactDose) :
    .develop slot ∉ workOf s := by
  intro mem
  obtain ⟨g, live', develops⟩ := develop_mem.1 (mem_workOf.1 mem)
  rw [workState_hangers, live] at live'
  cases live'
  have kind := legKind_of_step ((workState_legStep s h).trans leg)
  rw [developing_iff, kind] at develops
  exact other (Option.some.inj develops.2)

theorem minimum_turn {c u : State} (a : Early slot h c u) (leg : c.legStep h = some k) (immersed : h.state = .immersed)
    (place : h.position = some r) (free : h.held = false) (other : k.kind ≠ .exactDose) (reached : minimumReached c.beat h.stepStart k = true) :
    Called slot ⟨k.kind.requestClass, minimumDeadline h.stepStart k, r⟩ (u.minimumSlot slot) := by
  have beat : u.beat = c.beat := congrArg Settings.beat a.settings
  obtain ⟨g, live, of⟩ := a.alone.record
  have step := legStep_noted a.settings leg of
  rw [minimumSlot_eq live step]
  obtain ⟨n, rfl⟩ := of
  rw [if_pos ⟨(waitsMinimum_iff step).2 ⟨immersed, free, other⟩, by rw [beat]; exact reached⟩]
  refine Alone.lodge (a.alone.write ?_) _ _
  exact ⟨rfl, place⟩

theorem minimum_early {c u : State} (a : Early slot h c u) (leg : c.legStep h = some k) (early : ¬minimumReached c.beat h.stepStart k = true) :
    u.minimumSlot slot = u := by
  have beat : u.beat = c.beat := congrArg Settings.beat a.settings
  obtain ⟨g, live, of⟩ := a.alone.record
  have step := legStep_noted a.settings leg of
  rw [minimumSlot_eq live step]
  obtain ⟨n, rfl⟩ := of
  exact if_neg fun reached => early (beat ▸ reached.2)

variable (live : s.found.hangers[slot] = some h) (leg : s.found.legStep h = some k)
  (jobs : ∀ c j, (s.found.carriage c).job = some j → j.slot ≠ slot)
  (asks : s.lineState = .run → ∀ q ∈ s.found.queue, q.slot ≠ slot) (other : k.kind ≠ .exactDose)
include live leg jobs asks other

/-- A record at its minimum is called by the work of the beat (R48). -/
theorem work_calls_minimum (place : h.position = some r) (immersed : h.state = .immersed) (free : h.held = false)
    (reached : minimumReached (s.beat + 1) h.stepStart k = true) :
    Called slot ⟨k.kind.requestClass, minimumDeadline h.stepStart k, r⟩ ((workOf s).foldl State.takeTask (workState s)) := by
  have leg' := (workState_legStep s h).trans leg
  have mem : .minimum slot ∈ workOf s := mem_workOf.2 <| minimum_mem.2 ⟨h, by rw [workState_hangers]; exact live,
    (waitsMinimum_iff leg').2 ⟨immersed, free, other⟩⟩
  have only : ∀ e ∈ workOf s, e ≠ .minimum slot → taskSlot e = some slot → e = .overstay slot := by
    intro e inWork apart own
    rcases task_own own with rfl | rfl | rfl
    · exact absurd inWork (not_developed live leg other)
    · exact absurd rfl apart
    · rfl
  refine work_turns (P := Early slot h (workState s)) (workOf_nodup s) mem (fun e inWork apart u a => a.task (only e inWork apart))
    (fun u a => ?_) (fun e inWork apart u a => a.task (only e inWork apart)) ⟨rfl, workState_alone live jobs asks⟩
  exact minimum_turn a leg' immersed place free other (by rwa [workState_beat])

/-- A record short of its minimum stays IMMERSED (R48). -/
theorem work_leaves_minimum (early : ¬minimumReached (s.beat + 1) h.stepStart k = true) :
    Alone slot (NotedOf h) ((workOf s).foldl State.takeTask (workState s)) := by
  have leg' := (workState_legStep s h).trans leg
  refine (work_keeps (P := Early slot h (workState s)) (fun e inWork u a => ?_) ⟨rfl, workState_alone live jobs asks⟩).alone
  by_cases test : e = .minimum slot
  · subst test
    have same : u.takeTask (.minimum slot) = u := minimum_early a leg' (by rwa [workState_beat])
    rwa [same]
  · refine a.task fun own => ?_
    rcases task_own own with rfl | rfl | rfl
    · exact absurd inWork (not_developed live leg other)
    · exact absurd rfl test
    · rfl

end

end Sys2Proof.Machine.HangerTable
end

section
/-! On a beat a record on an EXACT leg within the margin of its call point is called (R71, R72), an overstay is noted (R49), and the claim on
the timing of the film. -/

namespace Sys2Proof.Machine.HangerTable

open Sys2Proof.Machine.RecipeBanks

/-! ### The bath of a station without a credit -/

/-- The reading held and the activity stand, and with them the development of a beat (R63, R69). -/
def SameYield (x y : Station) : Prop := y.heldValue = x.heldValue ∧ y.activity = x.activity

theorem SameYield.refl (x : Station) : SameYield x x := ⟨rfl, rfl⟩

theorem SameYield.trans (x y z : Station) (a : SameYield x y) (b : SameYield y z) : SameYield x z :=
  ⟨b.1.trans a.1, b.2.trans a.2⟩

theorem SameYield.of_tank (x y : Station) : Station.sameTank x y → SameYield x y := by
  rintro ⟨_, _, rfl⟩
  exact ⟨rfl, rfl⟩

theorem SameYield.of_aged (x : Station) (n : Nat) : SameYield x (x.aged n) := ⟨rfl, rfl⟩

theorem SameYield.beatYield {x y : Station} (same : SameYield x y) (table : Vector Nat 17) : beatYield table y = beatYield table x := by
  obtain ⟨held, activity⟩ := same
  unfold Machine.beatYield stationRate
  rw [held, activity]
  cases x.heldValue <;> rfl

/-- A run that is not complete at this beat, and none that could start (R84, R85). -/
def NoRunEnds (x : Station) : Prop := (x.runRemaining = none ∧ x.pendingRuns = 0) ∨ ∃ n, x.runRemaining = some (n + 2)

section

variable {s : State} {st : StationNo}

theorem NoRunEnds.started (h : NoRunEnds s.stations[st]) : s.startedStation st = s.stations[st] := by
  have still : s.runStarts st = false := by
    unfold State.runStarts
    dsimp only
    generalize s.stations[st] = x at h
    rcases h with ⟨_, pending⟩ | ⟨n, run⟩
    · simp [pending]
    · simp [run]
  rw [State.startedStation, still]
  rfl

theorem NoRunEnds.not_completes {x : Station} (h : NoRunEnds x) : x.completes = false := by
  rcases h with ⟨run, _⟩ | ⟨n, run⟩ <;> simp [Station.completes, Station.running, Station.countedDown, run]

theorem credit_not_inside (h : NoRunEnds s.found.stations[st]) : st ∉ creditsInside s := by
  have moves : LineMove (fun _ _ => True) (fun x y => NoRunEnds x → NoRunEnds y) s.found.counted
      s.found.counted.ageReadings.startRuns := by
    refine (State.ageReadings_moves (fun _ _ => id) _).trans (State.startRuns_moves (fun u i ends => ?_) _)
    rwa [ends.started]
  have ends := moves.station_of (S := fun x y => NoRunEnds x → NoRunEnds y) (fun _ => id) (fun _ _ _ a b => b ∘ a) st h
  intro mem
  have completes := (List.mem_filter.1 (List.mem_filter.1 mem).1).2
  rw [ends.not_completes] at completes
  cases completes

theorem workState_yield (s : State) (st : StationNo) : SameYield s.found.stations[st] (workState s).stations[st] := by
  have moves : LineMove (fun _ _ => True) SameYield s.found.counted (workState s) := by
    refine ((State.ageReadings_moves (fun _ _ => ⟨rfl, rfl⟩) _).trans (State.startRuns_moves (fun u i => ?_) _)).trans
      (State.countRuns_moves (fun x => ?_) _)
    · unfold State.startedStation
      dsimp only
      split <;> exact ⟨rfl, rfl⟩
    · unfold Station.countedDown
      split <;> exact ⟨rfl, rfl⟩
  exact moves.station_of SameYield.refl SameYield.trans st

/-- The work of a beat leaves the yield of a bath, but for its credit. -/
theorem takeTask_yield (s : State) {e : BeatTask} (other : e ≠ .credit st) : SameYield s.stations[st] (s.takeTask e).stations[st] := by
  have moved : ∀ t, LineMove (fun _ _ => True) SameYield s t → SameYield s.stations[st] t.stations[st] := fun t m =>
    m.station_of SameYield.refl SameYield.trans st
  cases e with
  | develop i => exact moved _ (s.developSlot_moves (fun _ _ _ => trivial) SameYield.of_tank (fun _ _ _ => trivial) i)
  | minimum i => exact moved _ (s.minimumSlot_moves (fun _ _ _ => trivial) SameYield.of_tank i)
  | overstay i => exact moved _ (s.overstaySlot_moves (fun _ _ _ => trivial) i)
  | credit i =>
    have apart : st ≠ i := fun same => other (congrArg _ same.symm)
    have kept : ((s.setStation i s.stations[i].credited).stations)[st] = s.stations[st] := by rw [State.setStation_get, if_neg apart]
    unfold State.takeTask State.creditBath
    dsimp only
    split
    · exact kept ▸ SameYield.refl _
    · exact kept ▸ SameYield.refl _

end

/-! ### EXACT legs -/

theorem rates_of_settings {u : State} {x : Settings} (settings : u.settings = x) : u.rates = x.rates := congrArg Settings.rates settings

theorem params_of_settings {u : State} {x : Settings} (settings : u.settings = x) : u.params = x.params := congrArg Settings.params settings

section

variable {s : State} {slot : Slot} {h : Hanger} {r : BayRef} {k : Step} {tg : Nat}

theorem callPoint_eq {g : Hanger} {n : Nat} (target : g.target = some tg) : s.callPoint slot g n =
    if g.state = .immersed ∧ atCallPoint tg g.dose n s.params.callLead = true then
      (s.putHanger slot { g with state := .due }).lodge slot .exactDose (callDeadline s.beat tg g.dose n)
    else s := by
  simp only [State.callPoint, target]

theorem developSlot_eq (live : s.hangers[slot] = some h) (place : h.position = some r) (develops : s.developing h = true) :
    s.developSlot slot =
      let x := s.stations[r.station]
      let n := beatYield s.rates x
      let g := h.developed n (incrementProvisional s.rates x)
      let t := s.putHanger slot g
      ((if incrementProvisional s.rates x = true ∧ h.provisional = false then t.mark .provisional slot.val else t).callPoint slot g n).signal
        slot := by
  simp only [State.developSlot, live, place, develops, if_true]

/-- While the work is taken: the settings and the yield of the bath stand, and the record is alone as it was found. -/
structure Developing (slot : Slot) (h : Hanger) (st : StationNo) (c u : State) : Prop where
  settings : u.settings = c.settings
  alone : Alone slot (· = h) u
  yield : SameYield c.stations[st] u.stations[st]

theorem Developing.start {c : State} {st : StationNo} (a : Alone slot (NotedOf h) c) (live : c.hangers[slot] = some h) :
    Developing slot h st c c :=
  ⟨rfl, ⟨⟨h, live, rfl⟩, a.jobs, a.asks⟩, .refl _⟩

theorem Developing.task {c u : State} {st : StationNo} (a : Developing slot h st c u) {e : BeatTask} (elsewhere : taskSlot e ≠ some slot)
    (credit : e ≠ .credit st) : Developing slot h st c (u.takeTask e) :=
  ⟨(takeTask_settings u e).trans a.settings, Alone.passes a.alone (takeTask_passes u elsewhere), a.yield.trans _ _ _ (takeTask_yield u credit)⟩

/-- The dose of a record after its increment (R69). -/
theorem developed_dose (h : Hanger) (n : Nat) (p : Bool) : (h.developed n p).dose = min 16777215 (h.dose + (h.fraction + n) / 262144) := rfl

/-- The increment of a record that is alone calls it within the margin of its call point, and else leaves it IMMERSED (R68 to R72). -/
theorem develop_turn {c u : State} (a : Developing slot h r.station c u) (leg : c.legStep h = some k) (isExact : k.kind = .exactDose)
    (immersed : h.state = .immersed) (place : h.position = some r) (target : h.target = some tg) :
    let n := beatYield c.rates c.stations[r.station]
    let dose := min 16777215 (h.dose + (h.fraction + n) / 262144)
    if atCallPoint tg dose n c.params.callLead = true then
      Called slot ⟨.exactDose, callDeadline c.beat tg dose n, r⟩ (u.developSlot slot)
    else Alone slot (fun g => g.state = .immersed) (u.developSlot slot) := by
  obtain ⟨g, live, rfl⟩ := a.alone.record
  have rates : u.rates = c.rates := congrArg Settings.rates a.settings
  have develops : u.developing g = true := by
    have step := legKind_of_step (legStep_noted a.settings leg ⟨g.overstayNoted, rfl⟩)
    exact developing_iff.2 ⟨.inl immersed, isExact ▸ step⟩
  have yield : beatYield u.rates u.stations[r.station] = beatYield c.rates c.stations[r.station] := by
    rw [rates]
    exact a.yield.beatYield _
  rw [developSlot_eq live place develops]
  dsimp only
  rw [yield]
  generalize beatYield c.rates c.stations[r.station] = n
  generalize incrementProvisional u.rates u.stations[r.station] = p
  generalize written : (if p = true ∧ g.provisional = false then _ else _ : State) = v
  have alone : Alone slot (· = g.developed n p) v := by
    have put : Alone slot (· = g.developed n p) (u.putHanger slot (g.developed n p)) := a.alone.write rfl
    rw [← written]
    split
    · exact Alone.passes put (mark_passes _ _ _)
    · exact put
  have settings : v.settings = c.settings := by
    rw [← written, ← a.settings]
    split <;> exact State.putHanger_settings ..
  have beat : v.beat = c.beat := congrArg Settings.beat settings
  have params : v.params = c.params := congrArg Settings.params settings
  rw [callPoint_eq (g := g.developed n p) target, beat, params, developed_dose]
  split
  · next near =>
    rw [if_pos ⟨immersed, near⟩]
    refine (Alone.lodge (alone.write ?_) _ _).signal
    exact ⟨rfl, place⟩
  · next far =>
    rw [if_neg fun both => far both.2, signal_silent alone.jobs]
    obtain ⟨x, found, rfl⟩ := alone.record
    exact ⟨⟨_, found, immersed⟩, alone.jobs, alone.asks⟩

variable (live : s.found.hangers[slot] = some h) (place : h.position = some r) (immersed : h.state = .immersed)
  (leg : s.found.legStep h = some k) (jobs : ∀ c j, (s.found.carriage c).job = some j → j.slot ≠ slot)
  (asks : s.lineState = .run → ∀ q ∈ s.found.queue, q.slot ≠ slot) (isExact : k.kind = .exactDose) (target : h.target = some tg)
  (bath : NoRunEnds s.found.stations[r.station])
include live place immersed leg jobs asks isExact target bath

/-- A record on an EXACT leg is called by the work of the beat within the margin of its call point, and else stays IMMERSED (R71, R72). -/
theorem work_develops :
    let n := beatYield s.rates (s.found.stations[r.station].aged s.params.sensorTimeout)
    let dose := min 16777215 (h.dose + (h.fraction + n) / 262144)
    (atCallPoint tg dose n s.params.callLead = true →
      Called slot ⟨.exactDose, callDeadline (s.beat + 1) tg dose n, r⟩ ((workOf s).foldl State.takeTask (workState s))) ∧
    (atCallPoint tg dose n s.params.callLead ≠ true →
      Alone slot (fun g => g.state = .immersed) ((workOf s).foldl State.takeTask (workState s))) := by
  have aged := SameYield.of_aged s.found.stations[r.station] s.params.sensorTimeout
  have yield := ((workState_yield s r.station).beatYield s.rates).trans (aged.beatYield s.rates).symm
  have leg' := (workState_legStep s h).trans leg
  have found : (workState s).hangers[slot] = some h := by rw [workState_hangers]; exact live
  have kind := legKind_of_step leg'
  have mem : .develop slot ∈ workOf s := mem_workOf.2 <| develop_mem.2 ⟨h, found, developing_iff.2 ⟨.inl immersed, isExact ▸ kind⟩⟩
  have elsewhere : ∀ e ∈ workOf s, e ≠ .develop slot → taskSlot e ≠ some slot := by
    intro e inWork apart own
    rcases task_own own with rfl | rfl | rfl
    · exact apart rfl
    · obtain ⟨g, live', waits⟩ := minimum_mem.1 (mem_workOf.1 inWork)
      cases found.symm.trans live'
      exact ((waitsMinimum_iff leg').1 waits).2.2 isExact
    · obtain ⟨g, live', watches⟩ := overstay_mem.1 (mem_workOf.1 inWork)
      cases found.symm.trans live'
      have timed := ((watchesOverstay_iff leg').1 watches).2.2
      rw [isExact] at timed
      cases timed
  have uncredited : ∀ e ∈ workOf s, e ≠ .credit r.station := by
    rintro e inWork rfl
    exact credit_not_inside bath (credit_mem.1 (mem_workOf.1 inWork))
  have rates : (workState s).rates = s.rates := rates_of_settings (workState_settings s)
  have params : (workState s).params = s.params := params_of_settings (workState_settings s)
  have start : Developing slot h r.station (workState s) (workState s) :=
    .start (workState_alone live jobs asks) found
  have turn := fun u (a : Developing slot h r.station (workState s) u) => develop_turn a leg' isExact immersed place target
  rw [rates, yield, params, workState_beat] at turn
  dsimp only at turn ⊢
  have before : ∀ e ∈ workOf s, e ≠ .develop slot → ∀ u, Developing slot h r.station (workState s) u →
      Developing slot h r.station (workState s) (u.takeTask e) := fun e inWork apart u a =>
    a.task (elsewhere e inWork apart) (uncredited e inWork)
  refine ⟨fun near => ?_, fun far => ?_⟩
  · refine work_turns (workOf_nodup s) mem before (fun u a => ?_) (fun e inWork apart u a => ?_) start
    · have turned := turn u a
      rwa [if_pos near] at turned
    · exact a.passes (takeTask_passes u (elsewhere e inWork apart))
  · refine work_turns (workOf_nodup s) mem before (fun u a => ?_) (fun e inWork apart u a => ?_) start
    · have turned := turn u a
      rwa [if_neg far] at turned
    · exact Alone.passes a (takeTask_passes u (elsewhere e inWork apart))

end

end Sys2Proof.Machine.HangerTable
end

section
/-! The overstay of a record on a TIMED leg (R49), and the claim on the timing of the film at a beat. -/

namespace Sys2Proof.Machine.HangerTable

open Sys2Proof.Machine.RecipeBanks

/-! ### Marks -/

section

variable {s : State} {n : Nat}

theorem callPoint_overstay (slot : Slot) (g : Hanger) (m : Nat) (marked : s.hasMark .overstay n = true) :
    (s.callPoint slot g m).hasMark .overstay n = true := by
  unfold State.callPoint
  split
  · exact marked
  · split
    · exact lodge_marks _ _ (putHanger_hasMark slot _ marked)
    · exact marked

/-- The work of a beat clears no OVERSTAY mark. -/
theorem takeTask_overstay (e : BeatTask) (marked : s.hasMark .overstay n = true) : (s.takeTask e).hasMark .overstay n = true := by
  cases e with
  | develop i =>
    have called := fun (t : State) g m (still : t.hasMark .overstay n = true) =>
      (signal_hauls (t.callPoint i g m) i).marks _ _ (callPoint_overstay i g m still)
    unfold State.takeTask State.developSlot
    dsimp only
    split
    · exact marked
    · split
      · exact marked
      · split
        · split
          · exact called _ _ _ (hasMark_mark _ _ (putHanger_hasMark i _ marked))
          · exact called _ _ _ (putHanger_hasMark i _ marked)
        · exact marked
  | minimum i =>
    unfold State.takeTask State.minimumSlot
    dsimp only
    repeat' split
    case isTrue => exact lodge_marks _ _ (putHanger_hasMark i _ marked)
    all_goals exact marked
  | overstay i =>
    unfold State.takeTask State.overstaySlot
    dsimp only
    repeat' split
    case isTrue => exact hasMark_mark _ _ (putHanger_hasMark i _ marked)
    all_goals exact marked
  | credit st =>
    unfold State.takeTask State.creditBath
    dsimp only
    split
    · rw [hasMark_unmark_apart _ _ _ (by decide)]
      exact marked
    · exact marked

end

/-! ### The overstay -/

/-- A record that hangs on the same leg, its overstay noted or not as `b` says (R49). -/
def Hangs (h : Hanger) (b : Bool) (g : Hanger) : Prop :=
  g.leg = h.leg ∧ g.bank = h.bank ∧ g.stepStart = h.stepStart ∧ g.overstayNoted = b

/-- Before its overstay test a record hangs in its bay, and in RUN it is DUE without a request. -/
structure Watched (slot : Slot) (h : Hanger) (c u : State) : Prop where
  settings : u.settings = c.settings
  record : ∃ g, u.hangers[slot] = some g ∧ (g.state = .immersed ∨ g.state = .due) ∧ Hangs h false g ∧ (c.lineState = .run → g.state = .due)
  asks : c.lineState = .run → ∀ q ∈ u.queue, q.slot ≠ slot

/-- After it the overstay is noted and marked. -/
structure Overdue (slot : Slot) (h : Hanger) (c u : State) : Prop where
  settings : u.settings = c.settings
  record : ∃ g, u.hangers[slot] = some g ∧ Hangs h true g
  marked : u.hasMark .overstay slot.val = true

section

variable {slot : Slot} {h g : Hanger} {c u : State} {k : Step} {b : Bool}

theorem Hangs.legStep (a : Hangs h b g) (settings : u.settings = c.settings) (leg : c.legStep h = some k) : u.legStep g = some k := by
  obtain ⟨sameLeg, bank, _⟩ := a
  exact (legStep_congr (banks_of_settings settings) sameLeg bank).trans leg

/-- No film develops on a TIMED leg (R68). -/
theorem developSlot_timed (live : u.hangers[slot] = some g) (leg : u.legStep g = some k) (timed : k.kind = .timed) :
    u.developSlot slot = u := by
  refine developSlot_idle live (Bool.eq_false_iff.2 fun develops => ?_)
  have kind := (developing_iff.1 develops).2
  rw [legKind_of_step leg, timed] at kind
  cases kind

theorem Watched.passes (a : Watched slot h c u) {v : State} (m : Passes slot u v) : Watched slot h c v := by
  have line : u.lineState = c.lineState := lineState_of_settings a.settings
  rcases m.parts with apart | ⟨run, _, r, _, mem, same, _⟩
  · refine ⟨m.settings.trans a.settings, by rw [apart.record]; exact a.record, fun run q mem same => ?_⟩
    exact a.asks run q ((apart.requests q same).1 mem) same
  · exact absurd same (a.asks (line.symm.trans run) r mem)

/-- Work on the slot other than the overstay test leaves its record hanging (R48). -/
theorem Watched.task (a : Watched slot h c u) (leg : c.legStep h = some k) (timed : k.kind = .timed) {e : BeatTask}
    (test : e ≠ .overstay slot) : Watched slot h c (u.takeTask e) := by
  by_cases own : taskSlot e = some slot
  · obtain ⟨settings, ⟨g, live, place, hangs, due⟩, asks⟩ := a
    have step := hangs.legStep settings leg
    rcases task_own own with rfl | rfl | rfl
    · have same : u.takeTask (.develop slot) = u := developSlot_timed live step timed
      rw [same]
      exact ⟨settings, ⟨g, live, place, hangs, due⟩, asks⟩
    · have settled : (u.minimumSlot slot).settings = c.settings := (takeTask_settings u (.minimum slot)).trans settings
      show Watched slot h c (u.minimumSlot slot)
      rw [minimumSlot_eq live step] at settled ⊢
      split_ifs at settled ⊢ with reached
      · have idle : c.lineState ≠ .run := fun run => by
          have immersed := ((waitsMinimum_iff step).1 reached.1).1
          rw [due run] at immersed
          cases immersed
        have outside : u.lineState ≠ .run := by rwa [lineState_of_settings settings]
        obtain ⟨d, written | ⟨run, _⟩⟩ := (lodged_putHanger u slot { g with state := .due } k.kind.requestClass
          (minimumDeadline g.stepStart k)).record
        · exact ⟨settled, ⟨_, written, .inr rfl, hangs, fun _ => rfl⟩, fun run => absurd run idle⟩
        · exact absurd run outside
      · exact ⟨settings, ⟨g, live, place, hangs, due⟩, asks⟩
    · exact absurd rfl test
  · exact a.passes (takeTask_passes u own)

/-- The overstay test notes an overstay (R49). -/
theorem Watched.test (a : Watched slot h c u) (leg : c.legStep h = some k) (timed : k.kind = .timed)
    (late : ((k.time + k.maxOverstay) * 8 : Nat) < beatDiff c.beat h.stepStart) : Overdue slot h c (u.overstaySlot slot) := by
  obtain ⟨settings, ⟨g, live, place, hangs, _⟩, _⟩ := a
  have beat : u.beat = c.beat := beat_of_settings settings
  have settled : (u.overstaySlot slot).settings = c.settings := (takeTask_settings u (.overstay slot)).trans settings
  have step := hangs.legStep settings leg
  obtain ⟨sameLeg, bank, start, noted⟩ := hangs
  rw [overstaySlot_eq live step, if_pos ⟨(watchesOverstay_iff step).2 ⟨place, noted, timed⟩, by rwa [beat, start]⟩] at settled ⊢
  refine ⟨settled, ⟨{ g with overstayNoted := true }, ?_, sameLeg, bank, start, rfl⟩, hasMark_mark_self _ _ _⟩
  rw [State.mark_hangers, State.putHanger_get, if_pos rfl]

/-- A record that has not hung too long is not noted (R49). -/
theorem Watched.untimely (a : Watched slot h c u) (leg : c.legStep h = some k)
    (early : ¬((k.time + k.maxOverstay) * 8 : Nat) < beatDiff c.beat h.stepStart) : u.overstaySlot slot = u := by
  obtain ⟨settings, ⟨g, live, _, hangs, _⟩, _⟩ := a
  have beat : u.beat = c.beat := beat_of_settings settings
  rw [overstaySlot_eq live (hangs.legStep settings leg)]
  obtain ⟨_, _, start, _⟩ := hangs
  exact if_neg fun late => early (by rw [← beat, ← start]; exact late.2)

/-- Other work leaves an overstay noted. -/
theorem Overdue.task (a : Overdue slot h c u) (leg : c.legStep h = some k) (timed : k.kind = .timed) {e : BeatTask}
    (test : e ≠ .overstay slot) : Overdue slot h c (u.takeTask e) := by
  refine ⟨(takeTask_settings u e).trans a.settings, ?_, takeTask_overstay e a.marked⟩
  obtain ⟨settings, ⟨g, live, hangs⟩, _⟩ := a
  have step := hangs.legStep settings leg
  by_cases own : taskSlot e = some slot
  · rcases task_own own with rfl | rfl | rfl
    · have same : u.takeTask (.develop slot) = u := developSlot_timed live step timed
      rw [same]
      exact ⟨g, live, hangs⟩
    · rw [State.takeTask, minimumSlot_eq live step]
      split
      · obtain ⟨d, written | ⟨_, lifted⟩⟩ := (lodged_putHanger u slot { g with state := .due } k.kind.requestClass
          (minimumDeadline g.stepStart k)).record
        · exact ⟨_, written, hangs⟩
        · exact ⟨_, lifted, hangs⟩
      · exact ⟨g, live, hangs⟩
    · exact absurd rfl test
  · rcases (takeTask_passes u own).record g live with kept | lifted
    · exact ⟨g, kept, hangs⟩
    · exact ⟨_, lifted, hangs⟩

end

section

variable {s : State} {slot : Slot} {h : Hanger} {k : Step} (live : s.found.hangers[slot] = some h)
  (place : h.state = .immersed ∨ h.state = .due) (unnoted : h.overstayNoted = false) (leg : s.found.legStep h = some k)
  (timed : k.kind = .timed) (quiet : s.lineState ≠ .run ∨ h.state = .due ∧ ∀ q ∈ s.found.queue, q.slot ≠ slot)
include live place unnoted leg timed quiet

/-- The work of a beat notes an overstay, and nothing else does (R49). -/
theorem work_notes_overstay : if ((k.time + k.maxOverstay) * 8 : Nat) < beatDiff (s.beat + 1) h.stepStart then
      Overdue slot h (workState s) ((workOf s).foldl State.takeTask (workState s))
    else Watched slot h (workState s) ((workOf s).foldl State.takeTask (workState s)) := by
  have leg' := (workState_legStep s h).trans leg
  have found : (workState s).hangers[slot] = some h := by rw [workState_hangers]; exact live
  have line := workState_lineState s
  have start : Watched slot h (workState s) (workState s) := by
    refine ⟨rfl, ⟨h, found, place, ⟨rfl, rfl, rfl, unnoted⟩, fun run => ?_⟩, fun run => ?_⟩
    · exact (quiet.resolve_left fun idle => idle (line.symm.trans run)).1
    · rw [(workState_still s).queue]
      exact (quiet.resolve_left fun idle => idle (line.symm.trans run)).2
  have beat := workState_beat s
  split
  · next late =>
    rw [← beat] at late
    have mem : .overstay slot ∈ workOf s :=
      mem_workOf.2 <| overstay_mem.2 ⟨h, found, (watchesOverstay_iff leg').2 ⟨place, unnoted, timed⟩⟩
    exact work_turns (workOf_nodup s) mem (fun e _ test u a => Watched.task a leg' timed test)
      (fun u a => Watched.test a leg' timed late) (fun e _ test u a => Overdue.task a leg' timed test) start
  · next early =>
    rw [← beat] at early
    refine work_keeps (fun e _ u a => ?_) start
    by_cases test : e = .overstay slot
    · subst test
      have same : u.takeTask (.overstay slot) = u := a.untimely leg' early
      rwa [same]
    · exact a.task leg' timed test

end

/-! ### The claim -/

section

variable {s : State} {slot : Slot} {x : Call}

theorem work_lineState (l : List BeatTask) (u : State) : (l.foldl State.takeTask u).lineState = u.lineState :=
  lineState_of_settings (work_keeps (P := fun t => t.settings = u.settings) (fun e _ t a => (takeTask_settings t e).trans a) rfl)

/-- What is shown of a record that the work of a beat has called. -/
theorem beat_called (called : Called slot x ((workOf s).foldl State.takeTask (workState s))) : ∃ h', s.beatEffect.hangers[slot] = some h' ∧
    ((h'.state = .due ∧ ∃ q ∈ s.beatEffect.queue, q.slot = slot ∧ q.cls = x.cls ∧ q.deadline = x.deadline ∧ q.source = x.source) ∨
      (s.lineState = .run ∧ (h'.state = .due ∨ h'.state = .inTransit) ∧ ∃ c j, (s.beatEffect.carriage c).job = some j ∧ j.slot = slot ∧
        j.cls = x.cls ∧ j.deadline = x.deadline ∧ j.source = x.source)) := by
  rw [← workState_lineState s, ← work_lineState (workOf s) (workState s)]
  exact called.shown (beat_ends s)

theorem Ends.hasMark {t u : State} (ends : Ends t u) (k : Kind) (n : Nat) : u.hasMark k n = t.hasMark k n := hasMark_congr ends.marks k n

/-- What is shown of one that it has left alone. -/
theorem beat_stays {P : Hanger → Prop} (alone : Alone slot P ((workOf s).foldl State.takeTask (workState s)))
    (immersed : ∀ g, P g → g.state = .immersed) : ∃ h', s.beatEffect.hangers[slot] = some h' ∧ h'.state = .immersed := by
  obtain ⟨g, live, holds⟩ := alone.record
  exact ⟨g, by rw [(beat_ends s).hangers]; exact live, immersed g holds⟩

end

/-- Settles O16: each piece of a beat's work leaves a record elsewhere alone, or grants its request in RUN; the record's own test, taken once,
calls it where its time has come; and an overstay, once noted, stays so. -/
theorem beatsTimeTheFilm : Obligations.BeatsTimeTheFilm := by
  unfold Obligations.BeatsTimeTheFilm
  refine ⟨fun s t slot h r k next live place immersed leg jobs asks => ?_, fun s t slot h k next live hangs unnoted leg timed quiet => ?_⟩
  · obtain rfl : s.beatEffect = t := Host.Outcome.next.inj next
    refine ⟨fun other free => ?_, fun target isExact given bath => ?_⟩
    · split
      · next reached =>
        exact beat_called (work_calls_minimum live leg jobs asks other place immersed free (decide_eq_true reached))
      · next early =>
        refine beat_stays (work_leaves_minimum live leg jobs asks other fun reached => early (of_decide_eq_true reached)) ?_
        rintro _ ⟨n, rfl⟩
        exact immersed
    · obtain ⟨calls, stays⟩ := work_develops live place immersed leg jobs asks isExact given bath
      dsimp only
      split
      · next near => exact beat_called (calls (decide_eq_true near))
      · next far => exact beat_stays (stays fun near => far (of_decide_eq_true near)) fun _ => id
  · obtain rfl : s.beatEffect = t := Host.Outcome.next.inj next
    have work := work_notes_overstay live hangs unnoted leg timed quiet
    split
    · next late =>
      rw [if_pos late] at work
      obtain ⟨_, ⟨g, noted, _, _, _, overdue⟩, marked⟩ := work
      exact ⟨g, by rw [(beat_ends s).hangers]; exact noted, overdue, by rw [(beat_ends s).hasMark]; exact marked⟩
    · next early =>
      rw [if_neg early] at work
      obtain ⟨_, ⟨g, noted, _, ⟨_, _, _, untimely⟩, _⟩, _⟩ := work
      exact ⟨g, by rw [(beat_ends s).hangers]; exact noted, untimely⟩

end Sys2Proof.Machine.HangerTable
end

section
/-! The arithmetic of the Dose Engine: the rate of a temperature value (R63, R64), and the increment of a beat with the dose of a run of
beats (R69). -/

namespace Sys2Proof.Machine.Development

/-! ### The clamped value and its entries -/

theorem clampTemperature_eq (v : Nat) : clampTemperature v = if v < 256 then 256 else if 512 < v then 512 else v := by
  unfold clampTemperature
  split_ifs <;> omega

theorem clampTemperature_range (v : Nat) : 256 ≤ clampTemperature v ∧ clampTemperature v ≤ 512 := by
  unfold clampTemperature
  omega

/-- The clamp changes exactly the values outside 256..512 (R64). -/
theorem clampTemperature_ne_iff (v : Nat) : clampTemperature v ≠ v ↔ v < 256 ∨ 512 < v := by
  unfold clampTemperature
  omega

theorem entry_eq (table : Vector Nat 17) (i : Nat) (h : i < 17) : table[i]?.getD 0 = table[i] := by simp [h]

/-- The value that falls on the last entry has that entry's rate (R64). -/
theorem rateAt_last (table : Vector Nat 17) {v : Nat} (last : (clampTemperature v - 256) / 16 = 16) : rateAt table v = table[16] := by
  unfold rateAt
  dsimp only
  rw [if_pos last, last, entry_eq table 16 (by decide)]

/-- Below it the rate is interpolated between two entries, rounded down (R64). -/
theorem rateAt_between (table : Vector Nat 17) {v : Nat} (i : Fin 16) (idx : (clampTemperature v - 256) / 16 = i.val) :
    rateAt table v = (table[i.val] * (16 - (clampTemperature v - 256) % 16) + table[i.val + 1] * ((clampTemperature v - 256) % 16)) / 16 := by
  unfold rateAt
  dsimp only
  rw [idx, if_neg (by omega), entry_eq table i.val (by omega), entry_eq table (i.val + 1) (by omega)]

/-- A mean with weights that add up to 16, rounded down, lies within the bounds of its two values. -/
theorem mean_range {lo hi a b w : Nat} (light : w ≤ 16) (low : lo ≤ a ∧ a ≤ hi) (high : lo ≤ b ∧ b ≤ hi) :
    lo ≤ (a * (16 - w) + b * w) / 16 ∧ (a * (16 - w) + b * w) / 16 ≤ hi := by
  have split : 16 - w + w = 16 := Nat.sub_add_cancel light
  constructor
  · rw [Nat.le_div_iff_mul_le (by decide)]
    calc lo * 16 = lo * (16 - w) + lo * w := by rw [← Nat.mul_add, split]
      _ ≤ a * (16 - w) + b * w := Nat.add_le_add (Nat.mul_le_mul_right _ low.1) (Nat.mul_le_mul_right _ high.1)
  · refine Nat.div_le_of_le_mul ?_
    calc a * (16 - w) + b * w ≤ hi * (16 - w) + hi * w := Nat.add_le_add (Nat.mul_le_mul_right _ low.2) (Nat.mul_le_mul_right _ high.2)
      _ = 16 * hi := by rw [← Nat.mul_add, split, Nat.mul_comm]

/-! ### The rate of a station -/

theorem stationRate_held {x : Station} {v : Nat} (table : Vector Nat 17) (held : x.heldValue = some v) :
    stationRate table x = (rateAt table v, !x.valid || clampTemperature v != v) := by
  simp only [stationRate, held]

theorem stationRate_absent {x : Station} (table : Vector Nat 17) (absent : x.heldValue = none) : stationRate table x = (256, true) := by
  simp only [stationRate, absent]

section

variable {table : Vector Nat 17} (bounds : ∀ i : Fin 17, 64 ≤ table[i] ∧ table[i] ≤ 1023)
include bounds

/-- Every rate lies within the bounds of the entries (R62, R64). -/
theorem rateAt_range (v : Nat) : 64 ≤ rateAt table v ∧ rateAt table v ≤ 1023 := by
  obtain ⟨low, high⟩ := clampTemperature_range v
  by_cases last : (clampTemperature v - 256) / 16 = 16
  · rw [rateAt_last table last]
    exact bounds 16
  · have entry : (clampTemperature v - 256) / 16 < 16 := by omega
    rw [rateAt_between table ⟨_, entry⟩ rfl]
    exact mean_range (by omega) (bounds ⟨_, by omega⟩) (bounds ⟨(clampTemperature v - 256) / 16 + 1, by omega⟩)

/-- So does that of a station without a reading, which is 256 (R63). -/
theorem stationRate_range (x : Station) : 64 ≤ (stationRate table x).1 ∧ (stationRate table x).1 ≤ 1023 := by
  cases held : x.heldValue with
  | none => rw [stationRate_absent table held]; decide
  | some v => rw [stationRate_held table held]; exact rateAt_range bounds v

end

/-- Settles O59: the value is clamped and split, and the rate is the last entry's or a mean of two neighbours'. -/
theorem ratesAreInterpolated : Obligations.RatesAreInterpolated := by
  unfold Obligations.RatesAreInterpolated
  refine ⟨fun table x v held => ?_, fun table x bounds => stationRate_range bounds x, fun table x => stationRate_absent table, by decide⟩
  have outside := clampTemperature_ne_iff v
  obtain ⟨low, high⟩ := clampTemperature_range v
  dsimp only
  rw [← clampTemperature_eq v]
  refine ⟨low, high, by omega, by omega, fun valid => ?_, fun out => ?_, fun last => ?_, fun i idx => ?_⟩
  · simpa [stationRate_held table held, valid] using outside
  · simp [incrementProvisional, stationRate_held table held, outside.2 out]
  · rw [stationRate_held table held]
    exact rateAt_last table last
  · rw [stationRate_held table held]
    exact rateAt_between table i idx

/-! ### The increment of a beat -/

/-- The yield of a beat lies within its bounds (R69). -/
theorem beatYield_range {table : Vector Nat 17} (bounds : ∀ i : Fin 17, 64 ≤ table[i] ∧ table[i] ≤ 1023) {x : Station}
    (low : 512 ≤ x.activity) (high : x.activity ≤ 1024) : 65536 ≤ beatYield table x ∧ beatYield table x ≤ 2095104 := by
  obtain ⟨least, most⟩ := stationRate_range bounds x
  unfold beatYield
  constructor
  · calc 65536 = 2 * 64 * 512 := rfl
      _ ≤ 2 * (stationRate table x).1 * x.activity := Nat.mul_le_mul (Nat.mul_le_mul_left 2 least) low
  · calc 2 * (stationRate table x).1 * x.activity ≤ 2 * 1023 * 1024 := Nat.mul_le_mul (Nat.mul_le_mul_left 2 most) high
      _ = 2095104 := rfl

/-- The dose and fraction after `k` beats of a constant yield, from none (R69). -/
def doseAfter (n k : Nat) : Nat × Nat := Nat.repeat (fun d : Nat × Nat => incremented d.1 d.2 n) k (0, 0)

/-- Over a run of beats no part of a DU is lost, until the dose saturates (R69). -/
theorem doseAfter_eq (n k : Nat) : doseAfter n k = (min 16777215 (k * n / 262144), k * n % 262144) := by
  induction k with
  | zero => simp [doseAfter, Nat.repeat]
  | succ k ih =>
    have next : doseAfter n (k + 1) = incremented (doseAfter n k).1 (doseAfter n k).2 n := rfl
    rw [next, ih, Nat.succ_mul]
    generalize k * n = total
    unfold incremented
    ext <;> dsimp only <;> omega

/-- At the slowest rate four beats give one DU (R69). -/
theorem doseAfter_slowest (k : Nat) : (doseAfter 65536 k).1 = min 16777215 (k / 4) := by
  rw [doseAfter_eq]
  dsimp only
  omega

/-- Settles O60: the increment by cases of its carry, and the run of beats by `doseAfter_eq`. -/
theorem developmentIsExact : Obligations.DevelopmentIsExact := by
  unfold Obligations.DevelopmentIsExact
  refine ⟨fun _ _ => rfl, fun _ _ bounds low high => beatYield_range bounds low high, fun h n b => ?_, fun table x rate fresh => ?_,
    fun k n => doseAfter_eq n k, doseAfter_slowest, fun k saturated => ?_⟩
  · have dose : (h.developed n b).dose = min 16777215 (h.dose + (h.fraction + n) / 262144) := rfl
    have fraction : (h.developed n b).fraction = (h.fraction + n) % 262144 := rfl
    rw [dose, fraction]
    refine ⟨rfl, rfl, fun part bound full => ?_, fun reference part full => ?_⟩ <;> omega
  · rw [beatYield, rate, fresh]
  · have slowest := doseAfter_slowest k
    rw [doseAfter, saturated] at slowest
    omega

end Sys2Proof.Machine.Development
end

section
/-! RESUME in STOPPED (R156 to R158): what settling a carriage does, and why settling carriage 1 leaves the action on carriage 2 as the
command found it. -/

namespace Sys2Proof.Machine.Development

open Sys2Proof.Machine.RecipeBanks Sys2Proof.Machine.HangerTable

/-! ### The action by the state of the carriage -/

section

variable {s : State} {c : CarriageId} {j : Job} {o : Order} {b : Beat}

/-- A carriage halted on its way is sent on (R157). -/
theorem resumeAction_reissued (halted : (s.carriage c).state = .halted) (order : (s.carriage c).halted = some o)
    (travels : (∃ st, o = .goto st) ∨ o = .park) : s.resumeAction c = .reissued := by
  rcases travels with ⟨st, rfl⟩ | rfl <;> simp only [State.resumeAction, halted, order]

/-- A carriage halted at a hoist is faulted (R158). -/
theorem resumeAction_faulted (halted : (s.carriage c).state = .halted) (order : (s.carriage c).halted = some o)
    (hoists : (∃ n, o = .lift n) ∨ ∃ n, o = .lower n) : s.resumeAction c = .faulted := by
  rcases hoists with ⟨n, rfl⟩ | ⟨n, rfl⟩ <;> simp only [State.resumeAction, halted, order]

theorem resumeAction_awaitLift (state : (s.carriage c).state = .awaitLift) (job : (s.carriage c).job = some j) :
    s.resumeAction c = if s.doseReached j.slot = true then .lifted else .untouched := by
  simp only [State.resumeAction, state, job]

theorem resumeAction_draining (state : (s.carriage c).state = .draining) (job : (s.carriage c).job = some j)
    (drain : j.drainEnd = some b) : s.resumeAction c = if 0 ≤ beatDiff s.beat b then .drained else .untouched := by
  simp only [State.resumeAction, state, job, drain]

theorem resumeAction_untouched (halted : (s.carriage c).state ≠ .halted) (waits : (s.carriage c).state ≠ .awaitLift)
    (drains : (s.carriage c).state ≠ .draining) : s.resumeAction c = .untouched := by
  unfold State.resumeAction
  dsimp only
  split
  · exact absurd ‹_› halted
  · exact absurd ‹_› waits
  · exact absurd ‹_› drains
  · rfl

/-- RESUME has nothing to do with a carriage that is free. -/
theorem resumeAction_free (free : (s.carriage c).isFree = true) : s.resumeAction c = .untouched := by
  refine resumeAction_untouched ?_ ?_ ?_ <;> intro state <;> simp [Carriage.isFree, state] at free

/-- The action rests on the carriage, the clock and the doses (R156). -/
theorem resumeAction_congr {t : State} (carriage : t.carriage c = s.carriage c) (beat : t.beat = s.beat)
    (doses : ∀ i, t.doseReached i = s.doseReached i) : t.resumeAction c = s.resumeAction c := by
  unfold State.resumeAction
  rw [carriage, beat]
  simp only [doses]

/-! ### Settling a carriage -/

/-- A halted order sent again: the carriage re-enters its phase, with a fresh timeout (R117, R157). -/
theorem reissue_eq (order : (s.carriage c).halted = some o) : s.reissue c =
    { s.setCarriage c { s.carriage c with
        state := match (s.carriage c).job with | some j => j.phase | none => .yielding
        halted := none
        order := some ⟨o, beatPlus s.beat (s.allowance c o)⟩ } with sent := s.sent ++ [(c, o)] } := by
  unfold State.reissue
  dsimp only
  rw [order]
  cases c <;> cases o <;> rfl

theorem reissue_other : (s.reissue c).carriage (otherCarriage c) = s.carriage (otherCarriage c) := by
  cases order : (s.carriage c).halted with
  | none => simp only [State.reissue, order]
  | some o => rw [reissue_eq order]; cases c <;> rfl

theorem goOn_other : (s.goOn c).carriage (otherCarriage c) = s.carriage (otherCarriage c) := by
  unfold State.goOn State.lowerOrder
  cases (s.carriage c).job with
  | none => rfl
  | some j =>
    dsimp only
    rw [State.setCarriage_same]
    split
    · rw [silenceAuto_carriage, sendOrder_carriage_other, State.advance, State.setCarriage_apart, State.setCarriage_apart]
    · rw [sendOrder_carriage_other, State.advance, State.setCarriage_apart, State.setCarriage_apart]

/-- A LIFT order with nothing taken before or after it (R117, R120). -/
theorem liftOrder_sendsLift {h : Hanger} (job : (s.carriage c).job = some j) (live : s.hangers[j.slot] = some h) :
    State.sendsLift c j h s (s.liftOrder c) :=
  sendsLift_of_hauls (.refl (slots := fun _ => True) s) job live (.refl (slots := fun _ => True) _) rfl fun _ => .inl rfl

theorem settleCarriage_untouched (action : s.resumeAction c = .untouched) : s.settleCarriage c = s := by
  simp only [State.settleCarriage, action]

theorem settleCarriage_reissued (action : s.resumeAction c = .reissued) : s.settleCarriage c = s.reissue c := by
  simp only [State.settleCarriage, action]

theorem settleCarriage_faulted (action : s.resumeAction c = .faulted) :
    s.settleCarriage c = s.faultCarriage c stopDuringMoveCode .stopDuringMove := by
  simp only [State.settleCarriage, action]

theorem settleCarriage_lifted (action : s.resumeAction c = .lifted) : s.settleCarriage c = s.liftOrder c := by
  simp only [State.settleCarriage, action]

theorem settleCarriage_drained (action : s.resumeAction c = .drained) : s.settleCarriage c = s.goOn c := by
  simp only [State.settleCarriage, action]

/-- All that settling a carriage can do. -/
theorem settleCarriage_moves {R : Hanger → Hanger → Prop} {S : Station → Station → Prop} (hR : ∀ h h', Hanger.sameStay h h' → R h h')
    (s : State) (c : CarriageId) : LineMove R S s (s.settleCarriage c) := by
  cases action : s.resumeAction c with
  | untouched => rw [settleCarriage_untouched action]; exact .refl s
  | faulted => rw [settleCarriage_faulted action]; exact s.faultCarriage_moves hR c _ _
  | lifted => rw [settleCarriage_lifted action]; exact s.liftOrder_moves hR c
  | drained => rw [settleCarriage_drained action]; exact s.goOn_moves c
  | reissued =>
    rw [settleCarriage_reissued action]
    cases order : (s.carriage c).halted with
    | none =>
      simp only [State.reissue, order]
      exact .refl s
    | some o =>
      rw [reissue_eq order]
      exact (LineMove.carriage s c _).trans (.sent _ _)

end

/-! ### The clock and the doses -/

section

variable {R : Hanger → Hanger → Prop} {S : Station → Station → Prop} {s t : State}

/-- The development of a record stands: dose, fraction, target and provisional flag. -/
structure SameFilm (h h' : Hanger) : Prop where
  dose : h'.dose = h.dose
  fraction : h'.fraction = h.fraction
  target : h'.target = h.target
  provisional : h'.provisional = h.provisional

theorem SameFilm.refl (h : Hanger) : SameFilm h h := ⟨rfl, rfl, rfl, rfl⟩

theorem SameFilm.trans (g h k : Hanger) (a : SameFilm g h) (b : SameFilm h k) : SameFilm g k :=
  ⟨b.dose.trans a.dose, b.fraction.trans a.fraction, b.target.trans a.target, b.provisional.trans a.provisional⟩

theorem SameFilm.of_stay (h h' : Hanger) : Hanger.sameStay h h' → SameFilm h h' := by
  rintro ⟨_, _, _, _, _, _, _, rfl⟩
  exact ⟨rfl, rfl, rfl, rfl⟩

/-- While records only move, a dose stays where it was against its target (R73). -/
theorem doseReached_of_moves (m : LineMove SameFilm S s t) (i : Slot) : t.doseReached i = s.doseReached i := by
  unfold State.doseReached
  rcases m.record_of SameFilm.refl SameFilm.trans i with ⟨before, after⟩ | ⟨h, h', before, after, same⟩ <;> rw [before, after]
  dsimp only
  rw [same.dose, same.target]

/-- A movement that leaves a carriage alone leaves the action on it. -/
theorem resumeAction_of_moves (m : LineMove SameFilm S s t) {c : CarriageId} (carriage : t.carriage c = s.carriage c) :
    t.resumeAction c = s.resumeAction c :=
  resumeAction_congr carriage (congrArg Settings.beat m.settings) (doseReached_of_moves m)

end

/-! ### The action on the other carriage -/

section

variable {s : State} {c : CarriageId}

/-- A carriage that has taken up a job goes to its source, lifts, or awaits a dose that is not reached (R118, R119). -/
theorem grant_untouched (s : State) (c : CarriageId) (r : Request) (d : BayRef) : (s.grant c r d).resumeAction c = .untouched := by
  unfold State.grant
  dsimp only
  split
  · generalize given : (State.setCarriage c _ _) = t
    have job : (t.carriage c).job = some (grantedJob r d) := by
      rw [← given, State.setCarriage_same]
      rfl
    by_cases awaits : (grantedJob r d).cls = .exactDose ∧ t.doseReached (grantedJob r d).slot = false
    · have below : (t.advance c .awaitLift).doseReached r.slot = false :=
        (doseReached_of_moves (S := fun _ _ => True) (t.advance_moves c .awaitLift) _).trans awaits.2
      have job' : ((t.advance c .awaitLift).carriage c).job = some { grantedJob r d with phase := .awaitLift } := by
        rw [advance_carriage, job]
        rfl
      rw [liftOrAwait_awaits job awaits.1 awaits.2, resumeAction_awaitLift (by rw [advance_carriage]) job']
      exact if_neg (by simp [grantedJob, below])
    · rw [liftOrAwait_lifts job (by simpa [or_iff_not_imp_left] using awaits)]
      refine resumeAction_untouched ?_ ?_ ?_ <;> simp [liftOrder_carriage job]
  · refine resumeAction_untouched ?_ ?_ ?_ <;> simp [sendOrder_carriage]

theorem consider_untouched (r : Request) (rests : s.resumeAction c = .untouched) : (s.consider r).resumeAction c = .untouched := by
  rcases consider_cases s r with e | ⟨i, d, _, e⟩
  · rwa [e]
  · rcases carriage_or_other i c with rfl | rfl
    · rw [e]
      exact grant_untouched s _ r d
    · have kept := (grant_hoists s i r d).other.trans (withoutSlot_carriage ..)
      rw [e]
      exact (resumeAction_of_moves (S := fun _ _ => True) (s.grant_moves SameFilm.of_stay i r d) kept).trans rests

theorem walk_untouched (l : List Request) (rests : s.resumeAction c = .untouched) :
    (l.foldl State.consider s).resumeAction c = .untouched := by
  induction l generalizing s with
  | nil => exact rests
  | cons r l ih => exact ih (consider_untouched r rests)

theorem yieldCarriage_other (s : State) (i : CarriageId) : (s.yieldCarriage i).carriage (otherCarriage i) = s.carriage (otherCarriage i) := by
  unfold State.yieldCarriage
  dsimp only
  split
  · rfl
  · exact (sendOrder_carriage_other ..).trans (State.setCarriage_apart ..)

theorem yieldCarriage_untouched (i : CarriageId) (rests : s.resumeAction c = .untouched) :
    (s.yieldCarriage i).resumeAction c = .untouched := by
  rcases carriage_or_other i c with rfl | rfl
  · unfold State.yieldCarriage
    dsimp only
    split
    · exact rests
    · refine resumeAction_untouched ?_ ?_ ?_ <;> simp [sendOrder_carriage]
  · exact (resumeAction_of_moves (S := fun _ _ => True) (s.yieldCarriage_moves i) (yieldCarriage_other s i)).trans rests

theorem yieldTest_untouched (i : CarriageId) (rests : s.resumeAction c = .untouched) : (s.yieldTest i).resumeAction c = .untouched := by
  unfold State.yieldTest
  split
  · split
    · split
      · split
        · exact rests
        · exact yieldCarriage_untouched _ rests
      · exact rests
    · exact rests
  · exact rests

/-- An arbitration leaves what RESUME finds to do with a carriage (R112, R114). -/
theorem arbitrate_resumeAction (s : State) (c : CarriageId) : s.arbitrate.resumeAction c = s.resumeAction c := by
  cases free : (s.carriage c).isFree with
  | false => exact resumeAction_of_moves (S := fun _ _ => True) (s.arbitrate_moves SameFilm.of_stay) (arbitrate_busy free)
  | true =>
    have rests := resumeAction_free free
    rw [rests]
    unfold State.arbitrate
    split
    · exact yieldTest_untouched _ (yieldTest_untouched _ (walk_untouched _ rests))
    · exact rests

theorem withQueue_carriage (s : State) (q : List Request) (i : CarriageId) : ({ s with queue := q } : State).carriage i = s.carriage i := by
  cases i <;> rfl

/-- The entry of one carriage into FAULT leaves what RESUME finds to do with the other, which may take up the job given back (R103, R126). -/
theorem faultCarriage_resumeAction (s : State) (c : CarriageId) (code : Nat) (reason : FaultReason) :
    (s.faultCarriage c code reason).resumeAction (otherCarriage c) = s.resumeAction (otherCarriage c) := by
  have entered : LineMove SameFilm (fun _ _ => True) s (inFault s c code) := (LineMove.carriage s c _).trans (.mark _ _ _)
  have other := inFault_other s c code
  cases job : (s.carriage c).job with
  | none =>
    have e : s.faultCarriage c code reason = inFault s c code := by simp only [State.faultCarriage, job, inFault]
    rw [e]
    exact resumeAction_of_moves entered other
  | some j =>
    by_cases before : j.beforeLift = true
    · have e : s.faultCarriage c code reason = (inFault s c code).returnRequest j := by
        simp only [State.faultCarriage, job, before, if_true, inFault]
      have queued := fun q : List Request => (withQueue_carriage (inFault s c code) q (otherCarriage c)).trans other
      rw [e]
      exact (arbitrate_resumeAction _ _).trans (resumeAction_of_moves (entered.trans (.queue _ _)) (queued _))
    · have e : s.faultCarriage c code reason = ((inFault s c code).silenceHoist j).faultHanger j.slot reason := by
        simp only [State.faultCarriage, job, before, inFault]
        rfl
      obtain ⟨_, _, _, lost, _⟩ := faultHanger_same ((inFault s c code).silenceHoist j) j.slot reason
      rw [e]
      exact resumeAction_of_moves ((entered.trans (State.silenceHoist_moves _ j)).trans
        (State.faultHanger_moves SameFilm.of_stay _ _ _)) ((lost _).trans ((silenceHoist_carriage ..).trans other))

/-- Settling one carriage leaves what RESUME finds to do with the other (R156). -/
theorem settleCarriage_other (s : State) (c : CarriageId) :
    (s.settleCarriage c).resumeAction (otherCarriage c) = s.resumeAction (otherCarriage c) := by
  have moves := settleCarriage_moves (S := fun _ _ => True) SameFilm.of_stay s c
  cases action : s.resumeAction c with
  | untouched => rw [settleCarriage_untouched action]
  | reissued =>
    rw [settleCarriage_reissued action] at moves ⊢
    exact resumeAction_of_moves moves reissue_other
  | faulted =>
    rw [settleCarriage_faulted action]
    exact faultCarriage_resumeAction s c _ _
  | lifted =>
    rw [settleCarriage_lifted action] at moves ⊢
    cases job : (s.carriage c).job with
    | none => simp only [State.liftOrder, job]
    | some j => exact resumeAction_of_moves moves (liftOrder_other job)
  | drained =>
    rw [settleCarriage_drained action] at moves ⊢
    exact resumeAction_of_moves moves goOn_other

end

/-! ### The claim -/

theorem resumeBody_active {s : State} (stopped : s.lineState = .stopped) (active : s.stopActive = true) :
    resumeBody s = .refused .stopInputActive 0 := by
  simp only [resumeBody, stopped, active, if_true]

theorem resumeBody_inactive {s : State} (stopped : s.lineState = .stopped) (inactive : s.stopActive = false) :
    resumeBody s = .accepted s.resumed s.resumeFaults s.resumeCodes := by
  simp only [resumeBody, stopped, inactive, Bool.false_eq_true, if_false]

theorem resumeFaults_eq (s : State) : s.resumeFaults =
    (if s.resumeAction .one = .faulted then 1 else 0) + if s.resumeAction .two = .faulted then 1 else 0 := by
  simp [State.resumeFaults, bothCarriages, List.countP_cons, Nat.add_comm]

/-- Settles O41: each carriage is settled by the state it is found in, the second on what the first left; by `settleCarriage_other` its action
is still the one the answer reports. -/
theorem resumeSettlesTheStoppedLine : Obligations.ResumeSettlesTheStoppedLine := by
  unfold Obligations.ResumeSettlesTheStoppedLine
  intro m s hears stopped t u again settles
  have settled : ∀ c v, settles c (v.resumeAction c) v (v.settleCarriage c) := by
    intro c v
    dsimp only [settles]
    have reissues : ∀ o, (v.carriage c).state = .halted → (v.carriage c).halted = some o → ((∃ st, o = .goto st) ∨ o = .park) →
        v.resumeAction c = .reissued ∧ v.settleCarriage c = v.reissue c := fun o halted order travels =>
      have action := resumeAction_reissued halted order travels
      ⟨action, settleCarriage_reissued action⟩
    have untouched : v.resumeAction c = .untouched → v.resumeAction c = .untouched ∧ v.settleCarriage c = v := fun action =>
      ⟨action, settleCarriage_untouched action⟩
    refine ⟨fun st halted order => ?_, fun halted order => ?_, fun b halted order => ?_, fun j state job reached => ?_,
      fun j state job below => ?_, fun j b state job drain ended => ?_, fun j b state job drain early => ?_,
      fun halted waits drains => untouched (resumeAction_untouched halted waits drains)⟩
    · obtain ⟨action, settling⟩ := reissues _ halted order (.inl ⟨st, rfl⟩)
      exact ⟨action, settling.trans (reissue_eq order)⟩
    · obtain ⟨action, settling⟩ := reissues _ halted order (.inr rfl)
      exact ⟨action, settling.trans (reissue_eq order)⟩
    · have action : v.resumeAction c = .faulted := by
        rcases order with order | order
        · exact resumeAction_faulted halted order (.inl ⟨b, rfl⟩)
        · exact resumeAction_faulted halted order (.inr ⟨b, rfl⟩)
      exact ⟨action, _, settleCarriage_faulted action, faultCarriage_entersFault v c _ _⟩
    · have action := (resumeAction_awaitLift state job).trans (if_pos reached)
      have settling := settleCarriage_lifted action
      exact ⟨action, settling, fun h live => settling ▸ liftOrder_sendsLift job live⟩
    · exact untouched ((resumeAction_awaitLift state job).trans (if_neg (by simp [below])))
    · have action := (resumeAction_draining state job drain).trans (if_pos ended)
      exact ⟨action, settleCarriage_drained action⟩
    · exact untouched ((resumeAction_draining state job drain).trans (if_neg (by omega)))
  have found : ∀ c, u.resumeAction c = t.resumeAction c := fun c => resumeAction_congr (by cases c <;> rfl) rfl fun _ => rfl
  have second := (settleCarriage_other u .one).trans (found .two)
  refine ⟨fun active => request_refused hears (by simp) (resumeBody_active stopped active), fun inactive => ?_⟩
  refine ⟨_, _, _, _, _, settled .one u, settled .two _, rfl, ?_⟩
  have counted : t.resumeFaults = _ := resumeFaults_eq t
  refine (request_accepted hears (by simp) (resumeBody_inactive stopped inactive)).trans ?_
  rw [found .one, show (u.settleCarriage .one).resumeAction .two = t.resumeAction .two from second]
  exact congrArg (fun n => Host.Outcome.next (s.okay 0x09 n t.resumeCodes t.resumed)) counted

end Sys2Proof.Machine.Development
end

section
/-! The work of a beat beside a slot whose request waits for no arbiter (R48, R49, R67 to R74): it leaves the record, its marks and a carriage
that holds its job as they are. -/

namespace Sys2Proof.Machine.Development

open Sys2Proof.Machine.RecipeBanks Sys2Proof.Machine.HangerTable

/-! ### What work on other slots leaves -/

/-- No arbitration can grant a request of the slot: the line is not in RUN, or the slot has none (R113). -/
def Quiet (slot : Slot) (s : State) : Prop := s.lineState = .run → ∀ q ∈ s.queue, q.slot ≠ slot

/-- Beyond what passing a slot by leaves: no order is taken back, a carriage with a job of the slot stands, no mark is cleared but EXHAUSTED,
and the marks of the slot stand where its request cannot be granted. -/
structure Beside (slot : Slot) (s t : State) : Prop extends Passes slot s t where
  sent : ∀ o ∈ s.sent, o ∈ t.sent
  hoist : ∀ c j, (s.carriage c).job = some j → j.slot = slot → (s.carriage c).isFree = false → t.carriage c = s.carriage c
  marks : ∀ k n, k ≠ .exhausted → s.hasMark k n = true → t.hasMark k n = true
  spared : Quiet slot s → ∀ k, k.subject = .slot → t.hasMark k slot.val = s.hasMark k slot.val

section

variable {slot : Slot} {s t u : State}

theorem Quiet.unasked (q : Quiet slot s) (run : s.lineState = .run) : ¬∃ x ∈ s.queue, x.slot = slot := by
  rintro ⟨x, mem, own⟩
  exact q run x mem own

theorem Quiet.apart (q : Quiet slot s) (m : Passes slot s t) : Apart slot s t :=
  m.parts.resolve_right fun ⟨run, _, r, _, mem, own, _⟩ => q run r mem own

theorem Quiet.passes (q : Quiet slot s) (m : Passes slot s t) : Quiet slot t := fun run x mem own =>
  q (m.lineState.symm.trans run) x (((q.apart m).requests x own).1 mem) own

theorem Beside.trans (a : Beside slot s t) (b : Beside slot t u) : Beside slot s u where
  toPasses := a.toPasses.trans b.toPasses
  sent o mem := b.sent o (a.sent o mem)
  hoist c j job own busy := by
    have kept := a.hoist c j job own busy
    exact (b.hoist c j (by rw [kept]; exact job) own (by rw [kept]; exact busy)).trans kept
  marks k n other h := b.marks k n other (a.marks k n other h)
  spared q k kind := (b.spared (q.passes a.toPasses) k kind).trans (a.spared q k kind)

theorem Beside.legKind (m : Beside slot s t) (h : Hanger) : t.legKind h = s.legKind h :=
  legKind_congr (banks_of_settings m.settings) rfl rfl

theorem Beside.params (m : Beside slot s t) : t.params = s.params := params_of_settings m.settings

theorem Beside.rates (m : Beside slot s t) : t.rates = s.rates := rates_of_settings m.settings

/-- Writes that leave the carriages, the orders and the marks. -/
theorem Beside.of_same (passes : Passes slot s t) (sent : t.sent = s.sent) (carriages : ∀ c, t.carriage c = s.carriage c)
    (marks : t.marks = s.marks) : Beside slot s t where
  toPasses := passes
  sent _ mem := sent ▸ mem
  hoist c _ _ _ _ := carriages c
  marks k n _ h := (hasMark_congr marks k n).trans h
  spared _ k _ := hasMark_congr marks k _

theorem Beside.refl (s : State) : Beside slot s s := .of_same (.refl s) rfl (fun _ => rfl) rfl

/-- Hauls of other slots. -/
theorem Beside.of_hauls {slots : Slot → Prop} (passes : Passes slot s t) (m : Hauls slots s t) (other : Quiet slot s → ¬slots slot)
    (hoist : ∀ c j, (s.carriage c).job = some j → j.slot = slot → (s.carriage c).isFree = false → t.carriage c = s.carriage c) :
    Beside slot s t where
  toPasses := passes
  sent := m.sent
  hoist := hoist
  marks k n _ := m.marks k n
  spared q k _ := (m.spared slot (other q)).2 k

/-! ### Elementary writes -/

theorem mark_beside (s : State) {k : Kind} {n : Nat} (apart : k.subject ≠ .slot ∨ n ≠ slot.val) : Beside slot s (s.mark k n) where
  toPasses := mark_passes s k n
  sent _ := id
  hoist c _ _ _ _ := mark_carriage s k n c
  marks _ _ _ := hasMark_mark k n
  spared _ _ kind := hasMark_mark_apart s (apart.imp (fun line same => line (same ▸ kind)) Ne.symm)

theorem putHanger_beside (s : State) {i : Slot} (g : Hanger) (other : i ≠ slot) : Beside slot s (s.putHanger i g) where
  toPasses := putHanger_passes s g other
  sent o mem := by rwa [putHanger_sent]
  hoist c _ _ _ _ := State.putHanger_carriage s i g c
  marks k n _ := putHanger_hasMark i g
  spared _ k _ := putHanger_hasMark_apart s i g (.inr fun same => other (Fin.ext same.symm))

theorem setStation_beside (s : State) (st : StationNo) (x : Station) : Beside slot s (s.setStation st x) :=
  .of_same (setStation_passes s st x) rfl (fun c => by cases c <;> rfl) rfl

theorem insertRequest_beside (s : State) {r : Request} (other : r.slot ≠ slot) :
    Beside slot s { s with queue := insertRequest r s.queue } :=
  .of_same (.of_same rfl rfl (fun q own => mem_insertRequest_other (by rw [own]; exact other.symm) s.queue) (withQueue_carriage s _)) rfl
    (withQueue_carriage s _) rfl

theorem creditBath_beside (s : State) (st : StationNo) : Beside slot s (s.creditBath st) := by
  have written := setStation_beside (slot := slot) s st s.stations[st].credited
  have passes := creditBath_passes (slot := slot) s st
  unfold State.creditBath at passes ⊢
  dsimp only at passes ⊢
  split at passes <;> rename_i test
  · rw [if_pos test]
    exact {
      toPasses := passes
      sent := written.sent
      hoist := fun c _ _ _ _ => by cases c <;> rfl
      marks := fun k n other h => by rwa [hasMark_unmark_apart _ _ _ other]
      spared := fun _ k kind => hasMark_unmark_apart _ _ _ fun same => by subst same; cases kind }
  · rw [if_neg test]
    exact written

/-! ### The arbiter, the lodgings and the signal -/

theorem arbitrate_beside (s : State) : Beside slot s s.arbitrate := by
  by_cases run : s.lineState = .run
  · exact .of_hauls (arbitrate_passes s) (arbitrate_hauls s) (fun q => q.unasked run) fun c j _ _ busy => arbitrate_busy busy
  · rw [arbitrate_idle run]
    exact .refl s

theorem resolvedAt_beside (s : State) {i : Slot} (g : Hanger) (cls : RequestClass) (b : Beat) (src e : BayRef) (other : i ≠ slot) :
    Beside slot s (resolvedAt s i g cls b src e) := by
  have reserved : Beside slot s (s.reserve i g e) := (setStation_beside s e.station _).trans (putHanger_beside _ _ other)
  have queue : (s.reserve i g e).queue = s.queue := putHanger_queue ..
  have queued := reserved.trans (insertRequest_beside _ (r := ⟨i, cls, b, src, some e⟩) other)
  rwa [queue] at queued

theorem pendingAt_beside (s : State) {i : Slot} (g : Hanger) (cls : RequestClass) (b : Beat) (src : BayRef) (other : i ≠ slot) :
    Beside slot s (pendingAt s i g cls b src) := by
  have marked := (insertRequest_beside s (r := ⟨i, cls, b, src, none⟩) other).trans
    (mark_beside _ (k := .bayPending) (n := i.val) (.inr fun same => other (Fin.ext same)))
  unfold pendingAt
  dsimp only
  split
  · exact marked.trans (mark_beside _ (.inl (by decide)))
  · exact marked

theorem lodge_beside (s : State) {i : Slot} (cls : RequestClass) (b : Beat) (other : i ≠ slot) : Beside slot s (s.lodge i cls b) := by
  cases live : s.hangers[i] with
  | none => simpa only [State.lodge, live] using .refl s
  | some g => cases place : g.position with
    | none =>
      rw [lodge_unplaced cls b live place]
      exact .refl s
    | some src =>
      rcases lodge_cases live place cls b with ⟨e, _, resolved⟩ | pending
      · rw [resolved]
        exact (resolvedAt_beside s g cls b src e other).trans (arbitrate_beside _)
      · rw [pending]
        exact pendingAt_beside s g cls b src other

theorem signalCarriage_hoist (s : State) {i : Slot} (c : CarriageId) (other : i ≠ slot) {x : CarriageId} {j : Job}
    (job : (s.carriage x).job = some j) (own : j.slot = slot) : (s.signalCarriage i c).carriage x = s.carriage x := by
  rcases carriage_or_other c x with rfl | rfl
  · rw [signalCarriage_silent fun j' job' same => ?_]
    cases job.symm.trans job'
    exact other (same.symm.trans own)
  · exact signalCarriage_other c

theorem signalCarriage_beside (s : State) {i : Slot} (c : CarriageId) (other : i ≠ slot) : Beside slot s (s.signalCarriage i c) :=
  .of_hauls ⟨signalCarriage_tends s i c, .inl (signalCarriage_apart s c other)⟩ (signalCarriage_hauls s i c)
    (fun _ same => other same.symm) fun _ _ job own _ => signalCarriage_hoist s c other job own

theorem signal_beside (s : State) {i : Slot} (other : i ≠ slot) : Beside slot s (s.signal i) :=
  (signalCarriage_beside s .one other).trans (signalCarriage_beside _ .two other)

/-! ### The pieces of work -/

theorem callPoint_beside (s : State) {i : Slot} (g : Hanger) (n : Nat) (other : i ≠ slot) : Beside slot s (s.callPoint i g n) := by
  unfold State.callPoint
  split
  · exact .refl s
  · split
    · exact (putHanger_beside s _ other).trans (lodge_beside _ _ _ other)
    · exact .refl s

theorem developSlot_beside (s : State) {i : Slot} (other : i ≠ slot) : Beside slot s (s.developSlot i) := by
  have apart : i.val ≠ slot.val := fun same => other (Fin.ext same)
  have called := fun t g n => (callPoint_beside t g n other).trans (signal_beside _ other)
  unfold State.developSlot
  split
  · exact .refl s
  · split
    · exact .refl s
    · split
      · dsimp only
        split
        · exact ((putHanger_beside s _ other).trans (mark_beside _ (.inr apart))).trans (called _ _ _)
        · exact (putHanger_beside s _ other).trans (called _ _ _)
      · exact .refl s

/-- A piece of a beat's work on another slot, or on a bath. -/
theorem takeTask_beside (s : State) {e : BeatTask} (elsewhere : taskSlot e ≠ some slot) : Beside slot s (s.takeTask e) := by
  cases e with
  | develop i => exact developSlot_beside s fun same => elsewhere (congrArg some same)
  | minimum i =>
    have other : i ≠ slot := fun same => elsewhere (congrArg some same)
    unfold State.takeTask State.minimumSlot
    dsimp only
    repeat' split
    case isTrue => exact (putHanger_beside s _ other).trans (lodge_beside _ _ _ other)
    all_goals exact .refl s
  | overstay i =>
    have other : i ≠ slot := fun same => elsewhere (congrArg some same)
    unfold State.takeTask State.overstaySlot
    dsimp only
    repeat' split
    case isTrue => exact (putHanger_beside s _ other).trans (mark_beside _ (.inr fun same => other (Fin.ext same)))
    all_goals exact .refl s
  | credit st => exact creditBath_beside s st

end

end Sys2Proof.Machine.Development
end

section
/-! The increment of a beat on one developing record (R63, R64, R68 to R70), taken once among the other work. -/

namespace Sys2Proof.Machine.Development

open Sys2Proof.Machine.RecipeBanks Sys2Proof.Machine.HangerTable

/-! ### The bath the increment is taken from -/

/-- What an increment rests on stands: the value held and whether it is valid, the activity and the deficit (R63, R69, R70). -/
structure SameBath (x y : Station) : Prop where
  held : y.heldValue = x.heldValue
  valid : y.valid = x.valid
  activity : y.activity = x.activity
  deficit : y.deficit = x.deficit

theorem SameBath.refl (x : Station) : SameBath x x := ⟨rfl, rfl, rfl, rfl⟩

theorem SameBath.trans (x y z : Station) (a : SameBath x y) (b : SameBath y z) : SameBath x z :=
  ⟨b.held.trans a.held, b.valid.trans a.valid, b.activity.trans a.activity, b.deficit.trans a.deficit⟩

theorem SameBath.of_tank (x y : Station) : Station.sameTank x y → SameBath x y := by
  rintro ⟨_, _, rfl⟩
  exact ⟨rfl, rfl, rfl, rfl⟩

theorem SameBath.rate {x y : Station} (same : SameBath x y) (table : Vector Nat 17) : stationRate table y = stationRate table x := by
  cases held : x.heldValue with
  | none => rw [stationRate_absent table held, stationRate_absent table (same.held.trans held)]
  | some v => rw [stationRate_held table held, stationRate_held table (same.held.trans held), same.valid]

theorem SameBath.yield {x y : Station} (same : SameBath x y) (table : Vector Nat 17) : beatYield table y = beatYield table x := by
  rw [beatYield, beatYield, same.rate, same.activity]

theorem SameBath.cause {x y : Station} (same : SameBath x y) (table : Vector Nat 17) :
    incrementProvisional table y = incrementProvisional table x := by
  rw [incrementProvisional, incrementProvisional, same.rate, same.deficit]

section

variable {s : State} {st : StationNo}

theorem ageStation_get (s : State) (i st : StationNo) : (s.ageStation i).stations[st] =
    if st = i then s.stations[st].aged s.params.sensorTimeout else s.stations[st] := by
  have written : (s.ageStation i).stations = (s.setStation i (s.stations[i].aged s.params.sensorTimeout)).stations := by
    unfold State.ageStation
    dsimp only
    split <;> rfl
  rw [written, State.setStation_get]
  split
  · next same => rw [same]
  · rfl

/-- Each of the stations of a list is aged once (R16). -/
theorem ageStations_get (l : List StationNo) (once : l.Nodup) (s : State) : (l.foldl State.ageStation s).stations[st] =
    if st ∈ l then s.stations[st].aged s.params.sensorTimeout else s.stations[st] := by
  induction l generalizing s with
  | nil => rfl
  | cons i l ih =>
    obtain ⟨out, rest⟩ := List.nodup_cons.1 once
    have params : (s.ageStation i).params = s.params := params_of_settings (ageStation_still s i).settings
    rw [List.foldl_cons, ih rest, params, ageStation_get]
    by_cases same : st = i
    · subst same
      simp [out]
    · simp [same]

theorem ageReadings_get (s : State) (st : StationNo) : s.ageReadings.stations[st] = s.stations[st].aged s.params.sensorTimeout :=
  (ageStations_get allStations (List.nodup_finRange 16) s).trans (if_pos (List.mem_finRange st))

/-- The work of a beat begins with each bath as it was found and its reading aged (R16, R84, R85). -/
theorem workState_bath (s : State) (st : StationNo) : SameBath (s.found.stations[st].aged s.params.sensorTimeout) (workState s).stations[st] := by
  have params : s.found.counted.params = s.params := params_of_settings (found_settings s)
  have aged : s.found.counted.ageReadings.stations[st] = s.found.stations[st].aged s.params.sensorTimeout := by
    rw [ageReadings_get, params]
    rfl
  have moves : LineMove (fun _ _ => True) SameBath s.found.counted.ageReadings (workState s) := by
    refine (State.startRuns_moves (fun u i => ?_) _).trans (State.countRuns_moves (fun x => ?_) _)
    · unfold State.startedStation
      dsimp only
      split <;> exact ⟨rfl, rfl, rfl, rfl⟩
    · unfold Station.countedDown
      split <;> exact ⟨rfl, rfl, rfl, rfl⟩
  rw [← aged]
  exact moves.station_of SameBath.refl SameBath.trans st

/-- Of a bath the work of a beat moves what an increment rests on only at its credit (R67, R86). -/
theorem takeTask_bath (s : State) {e : BeatTask} (other : e ≠ .credit st) : SameBath s.stations[st] (s.takeTask e).stations[st] := by
  have moved : ∀ t, LineMove (fun _ _ => True) SameBath s t → SameBath s.stations[st] t.stations[st] := fun t m =>
    m.station_of SameBath.refl SameBath.trans st
  cases e with
  | develop i => exact moved _ (s.developSlot_moves (fun _ _ _ => trivial) SameBath.of_tank (fun _ _ _ => trivial) i)
  | minimum i => exact moved _ (s.minimumSlot_moves (fun _ _ _ => trivial) SameBath.of_tank i)
  | overstay i => exact moved _ (s.overstaySlot_moves (fun _ _ _ => trivial) i)
  | credit i =>
    have kept : (s.creditBath i).stations[st] = s.stations[st] := by
      have written : (s.creditBath i).stations = (s.setStation i s.stations[i].credited).stations := by
        unfold State.creditBath
        dsimp only
        split <;> rfl
      rw [written, State.setStation_get, if_neg fun same => other (congrArg _ same.symm)]
    exact kept ▸ SameBath.refl _

end

/-! ### The marks the work finds -/

theorem fold_hasMark {α : Type} {k : Kind} {n : Nat} (f : State → α → State) (same : ∀ s a, (f s a).hasMark k n = s.hasMark k n)
    (l : List α) (s : State) : (l.foldl f s).hasMark k n = s.hasMark k n := by
  induction l generalizing s with
  | nil => rfl
  | cons a l ih => exact (ih _).trans (same s a)

/-- Before the work a beat marks stale readings alone (R16). -/
theorem workState_hasMark (s : State) {k : Kind} (n : Nat) (other : k ≠ .sensorStale) : (workState s).hasMark k n = s.found.hasMark k n := by
  have aged : ∀ (u : State) st, (u.ageStation st).hasMark k n = u.hasMark k n := by
    intro u st
    unfold State.ageStation
    dsimp only
    split
    · exact hasMark_mark_apart _ (.inl other)
    · rfl
  have readings : ∀ u : State, u.ageReadings.hasMark k n = u.hasMark k n := fold_hasMark State.ageStation aged allStations
  have starts : ∀ u : State, u.startRuns.hasMark k n = u.hasMark k n :=
    fold_hasMark (fun u st => u.setStation st (u.startedStation st)) (fun _ _ => rfl) allStations
  have counts : ∀ u : State, u.countRuns.hasMark k n = u.hasMark k n :=
    fold_hasMark (fun u st => u.setStation st u.stations[st].countedDown) (fun _ _ => rfl) allStations
  rw [workState, counts, starts, readings]
  exact hasMark_congr rfl k n

/-! ### The record written -/

/-- The record and its mark as an increment writes them, before its call point (R69, R70). -/
def incrementSlot (slot : Slot) (h : Hanger) (n : Nat) (p : Bool) (u : State) : State :=
  let t := u.putHanger slot (h.developed n p)
  if p = true ∧ h.provisional = false then t.mark .provisional slot.val else t

section

variable {slot : Slot} {h : Hanger} {n : Nat} {p : Bool} {u : State}

theorem incrementSlot_get : (incrementSlot slot h n p u).hangers[slot] = some (h.developed n p) := by
  unfold incrementSlot
  dsimp only
  split <;> exact (State.putHanger_get ..).trans (if_pos rfl)

theorem incrementSlot_settings : (incrementSlot slot h n p u).settings = u.settings := by
  unfold incrementSlot
  dsimp only
  split <;> exact State.putHanger_settings ..

theorem incrementSlot_queue : (incrementSlot slot h n p u).queue = u.queue := by
  unfold incrementSlot
  dsimp only
  split <;> exact putHanger_queue ..

theorem incrementSlot_carriage (c : CarriageId) : (incrementSlot slot h n p u).carriage c = u.carriage c := by
  unfold incrementSlot
  dsimp only
  split
  · exact (mark_carriage ..).trans (State.putHanger_carriage ..)
  · exact State.putHanger_carriage ..

theorem incrementSlot_overshoot : (incrementSlot slot h n p u).hasMark .overshoot slot.val = u.hasMark .overshoot slot.val := by
  have put := putHanger_hasMark_apart u slot (h.developed n p) (k := .overshoot) (n := slot.val) (.inl (by decide))
  unfold incrementSlot
  dsimp only
  split
  · exact (hasMark_mark_apart _ (.inl (by decide))).trans put
  · exact put

/-- The mark is set where the flag is (R70). -/
theorem incrementSlot_provisional (fresh : p = true) (unset : h.provisional = false) :
    (incrementSlot slot h n p u).hasMark .provisional slot.val = true := by
  unfold incrementSlot
  dsimp only
  rw [if_pos ⟨fresh, unset⟩]
  exact hasMark_mark_self _ _ _

theorem Quiet.incremented (q : Quiet slot u) : Quiet slot (incrementSlot slot h n p u) := by
  have line : (incrementSlot slot h n p u).lineState = u.lineState := lineState_of_settings incrementSlot_settings
  unfold Quiet
  rwa [line, incrementSlot_queue]

end

/-! ### The increment among the work -/

section

variable {s : State} {slot : Slot} {h : Hanger} {r : BayRef}

theorem workState_legKind (s : State) (h : Hanger) : (workState s).legKind h = s.found.legKind h :=
  congrArg (Option.map Step.kind) (workState_legStep s h)

theorem workState_live (live : s.found.hangers[slot] = some h) : (workState s).hangers[slot] = some h := by
  rw [workState_hangers]
  exact live

/-- On a developing record the increment is the only work of its slot. -/
theorem work_elsewhere (live : s.found.hangers[slot] = some h) (kind : s.found.legKind h = some .exactDose) {e : BeatTask}
    (mem : e ∈ workOf s) (other : e ≠ .develop slot) : taskSlot e ≠ some slot := by
  have found := workState_live live
  have kind' := (workState_legKind s h).trans kind
  intro own
  rcases task_own own with rfl | rfl | rfl
  · exact other rfl
  · obtain ⟨g, live', waits⟩ := minimum_mem.1 (mem_workOf.1 mem)
    cases found.symm.trans live'
    simp [State.waitsMinimum, kind'] at waits
  · obtain ⟨g, live', watches⟩ := overstay_mem.1 (mem_workOf.1 mem)
    cases found.symm.trans live'
    simp [State.watchesOverstay, kind'] at watches

theorem workState_quiet (quiet : s.lineState ≠ .run ∨ ∀ q ∈ s.found.queue, q.slot ≠ slot) : Quiet slot (workState s) := by
  intro run q mem
  rw [workState_lineState] at run
  rw [(workState_still s).queue] at mem
  exact quiet.resolve_left (fun idle => idle run) q mem

/-- Before its increment: other work has been taken, and none of it on the bath. -/
structure Awaits (slot : Slot) (st : StationNo) (s u : State) : Prop where
  beside : Beside slot (workState s) u
  bath : SameBath (s.found.stations[st].aged s.params.sensorTimeout) u.stations[st]

/-- After it: the increment has been taken, with the call point and the signal, and other work since (R68 to R73). -/
def Incremented (slot : Slot) (h : Hanger) (n : Nat) (p : Bool) (s w : State) : Prop :=
  ∃ u, Beside slot (workState s) u ∧ Beside slot (((incrementSlot slot h n p u).callPoint slot (h.developed n p) n).signal slot) w

variable (live : s.found.hangers[slot] = some h) (place : h.position = some r) (hangs : h.state = .immersed ∨ h.state = .due)
  (kind : s.found.legKind h = some .exactDose) (quiet : s.lineState ≠ .run ∨ ∀ q ∈ s.found.queue, q.slot ≠ slot)
include live

theorem develops_mem (hangs : h.state = .immersed ∨ h.state = .due) (kind : s.found.legKind h = some .exactDose) :
    .develop slot ∈ workOf s :=
  mem_workOf.2 <| develop_mem.2 ⟨h, workState_live live, developing_iff.2 ⟨hangs, (workState_legKind s h).trans kind⟩⟩

include place hangs kind quiet

/-- The increment is that of the record and the reading found (R63, R68). -/
theorem Awaits.turn {v : State} (a : Awaits slot r.station s v) :
    let x := s.found.stations[r.station].aged s.params.sensorTimeout
    let n := beatYield s.rates x
    v.developSlot slot =
      ((incrementSlot slot h n (incrementProvisional s.rates x) v).callPoint slot (h.developed n (incrementProvisional s.rates x)) n).signal
        slot := by
  obtain ⟨before, same⟩ := a
  have here : v.hangers[slot] = some h := ((workState_quiet quiet).apart before.toPasses).record.trans (workState_live live)
  have rates : v.rates = s.rates := before.rates.trans (rates_of_settings (workState_settings s))
  have leg : v.legKind h = some .exactDose := (before.legKind h).trans ((workState_legKind s h).trans kind)
  rw [developSlot_eq here place (developing_iff.2 ⟨hangs, leg⟩), rates]
  dsimp only
  rw [same.yield, same.cause]
  rfl

/-- The work of a beat takes one increment of a developing record, from its aged reading, where no credit falls on the beat (R63, R67 to
R70). -/
theorem work_increments (bath : NoRunEnds s.found.stations[r.station]) :
    let x := s.found.stations[r.station].aged s.params.sensorTimeout
    Incremented slot h (beatYield s.rates x) (incrementProvisional s.rates x) s ((workOf s).foldl State.takeTask (workState s)) := by
  have turn := fun v a => Awaits.turn live place hangs kind quiet (v := v) a
  have beside : ∀ e ∈ workOf s, e ≠ .develop slot → ∀ v, Beside slot v (v.takeTask e) := fun e inWork other v =>
    takeTask_beside v (work_elsewhere live kind inWork other)
  have uncredited : ∀ e ∈ workOf s, e ≠ .credit r.station := by
    rintro e inWork rfl
    exact credit_not_inside bath (credit_mem.1 (mem_workOf.1 inWork))
  exact work_turns (P := Awaits slot r.station s) (Q := Incremented slot h _ _ s) (workOf_nodup s) (develops_mem live hangs kind)
    (fun e inWork other v a =>
      ⟨a.beside.trans (beside e inWork other v), a.bath.trans _ _ _ (takeTask_bath v (uncredited e inWork))⟩)
    (fun v a => ⟨v, a.beside, turn v a ▸ .refl (v.developSlot slot)⟩)
    (fun e inWork other v ⟨u, before, after⟩ => ⟨u, before, after.trans (beside e inWork other v)⟩)
    ⟨.refl _, workState_bath s r.station⟩

end

end Sys2Proof.Machine.Development
end

section
/-! What a beat shows of a developing record: its increment (R69, R70), and the lift at its target by a carriage that waits over it (R73 to R76,
R120, R140, R154). -/

namespace Sys2Proof.Machine.Development

open Sys2Proof.Machine.RecipeBanks Sys2Proof.Machine.HangerTable

/-! ### The call point and the signal -/

section

variable {s : State} {slot : Slot} {g : Hanger} {n : Nat}

theorem callPoint_marks {k : Kind} {i : Nat} (marked : s.hasMark k i = true) : (s.callPoint slot g n).hasMark k i = true := by
  unfold State.callPoint
  split
  · exact marked
  · split
    · exact lodge_marks _ _ (putHanger_hasMark slot _ marked)
    · exact marked

/-- A record that is DUE already has no call point (R71). -/
theorem callPoint_due (due : g.state = .due) : s.callPoint slot g n = s := by
  unfold State.callPoint
  split
  · rfl
  · exact if_neg fun near => by simp [due] at near

theorem signalCarriage_withheld {c : CarriageId} (held : s.lineState = .stopped ∨ s.doseReached slot = false) :
    s.signalCarriage slot c = s := by
  refine if_neg fun ⟨moving, ready⟩ => ?_
  have reached : s.doseReached slot = true := (Bool.and_eq_true_iff.1 ready).2
  rcases held with stopped | below
  · exact moving stopped
  · rw [below] at reached
    cases reached

/-- The signal is given below no target, and not while the line is STOPPED (R73, R74, R154). -/
theorem signal_withheld (held : s.lineState = .stopped ∨ s.doseReached slot = false) : s.signal slot = s := by
  rw [State.signal, signalCarriage_withheld held, signalCarriage_withheld held]

theorem Quiet.signalled (q : Quiet slot s) : Quiet slot (s.signal slot) := by
  have hauls := signal_hauls s slot
  intro run x mem
  exact q ((lineState_of_settings hauls.settings).symm.trans run) x (hauls.queue x mem)

end

/-! ### The increment shown -/

section

variable {s w : State} {slot : Slot} {h : Hanger} {n : Nat} {p : Bool}

/-- Whatever else becomes of the record in the beat, it has the increment, with the mark where the flag is new (R69, R70). -/
theorem Incremented.record (m : Incremented slot h n p s w) : ∃ h', w.hangers[slot] = some h' ∧ SameFilm (h.developed n p) h' ∧
    (p = true → h.provisional = false → w.hasMark .provisional slot.val = true) := by
  obtain ⟨u, _, after⟩ := m
  have moves := (State.callPoint_moves (R := SameFilm) (S := anyStation) SameFilm.of_stay anyStation_of _ slot (h.developed n p) n
    (incrementSlot_get (slot := slot) (u := u))).trans (State.signal_moves SameFilm.of_stay _ slot)
  have marked : p = true → h.provisional = false → w.hasMark .provisional slot.val = true := fun fresh unset =>
    after.marks _ _ (by decide) ((signal_hauls _ slot).marks _ _ (callPoint_marks (incrementSlot_provisional fresh unset)))
  rcases moves.record_of SameFilm.refl SameFilm.trans slot with ⟨gone, _⟩ | ⟨g, g', here, there, film⟩
  · rw [incrementSlot_get] at gone
    cases gone
  · rw [incrementSlot_get] at here
    cases here
    rcases after.toTends.record g' there with kept | lifted
    · exact ⟨g', kept, film, marked⟩
    · exact ⟨_, lifted, film.trans _ _ _ (SameFilm.of_stay _ _ ⟨_, _, _, _, _, _, _, rfl⟩), marked⟩

/-- A DUE record with its increment `g` is at once at the signal, in the state `v`; what the beat found of its slot else stands (R71, R73). -/
structure AtSignal (slot : Slot) (g : Hanger) (s v w : State) : Prop where
  after : Beside slot (v.signal slot) w
  quiet : Quiet slot v
  line : v.lineState = s.lineState
  params : v.params = s.found.params
  legs : ∀ k, v.legKind k = s.found.legKind k
  record : v.hangers[slot] = some g
  carriage : ∀ c j, (s.found.carriage c).job = some j → j.slot = slot → (s.found.carriage c).isFree = false →
    v.carriage c = s.found.carriage c
  mark : v.hasMark .overshoot slot.val = s.found.hasMark .overshoot slot.val

theorem workState_carriage (s : State) (c : CarriageId) : (workState s).carriage c = s.found.carriage c :=
  ((workState_still s).carriages c).trans (by cases c <;> rfl)

theorem workState_params (s : State) : (workState s).params = s.found.params :=
  (params_of_settings (workState_settings s)).trans (params_of_settings (found_settings s)).symm

theorem Incremented.due (m : Incremented slot h n p s w) (due : h.state = .due) (quiet : Quiet slot (workState s)) :
    ∃ v, AtSignal slot (h.developed n p) s v w := by
  obtain ⟨u, before, after⟩ := m
  have written : (incrementSlot slot h n p u).settings = u.settings := incrementSlot_settings
  rw [callPoint_due (g := h.developed n p) due] at after
  exact ⟨incrementSlot slot h n p u, {
    after := after
    quiet := (quiet.passes before.toPasses).incremented
    line := (lineState_of_settings written).trans (before.toTends.lineState.trans (workState_lineState s))
    params := (params_of_settings written).trans (before.params.trans (workState_params s))
    legs := fun k => (legKind_congr (banks_of_settings written) rfl rfl).trans ((before.legKind k).trans (workState_legKind s k))
    record := incrementSlot_get
    carriage := fun c j job own busy => by
      have found := workState_carriage s c
      rw [incrementSlot_carriage, before.hoist c j (by rw [found]; exact job) own (by rw [found]; exact busy), found]
    mark := by rw [incrementSlot_overshoot, before.spared quiet .overshoot rfl, workState_hasMark s _ (by decide)] }⟩

end

/-! ### The end of the beat -/

/-- Over the station at which a hoist is in motion the valve, if in AUTO, is staged off (R137, R140). -/
theorem transferred_hoisting {d : State} {c : CarriageId} {st : StationNo} (running : List PumpNo)
    (hoisting : (d.carriage c).state.hoisting = true) (position : (d.carriage c).position = some (st.val : Int))
    (auto : (d.transferred running (valveOf st)).mode = .auto) :
    (d.transferred running (valveOf st)).staged = false ∧ (d.transferred running (valveOf st)).latch = false := by
  have mode : d.channels[valveOf st].mode = .auto := auto
  have locked : (d.carriage c).interlocks st = true := by simp [Carriage.interlocks, hoisting, position]
  have still : d.valveStaged st = false := by
    unfold State.valveStaged
    cases c
    · simp [show d.carriage1.interlocks st = true from locked]
    · simp [show d.carriage2.interlocks st = true from locked]
  have off : d.blockStaged running (valveOf st) = false := (dif_pos st.isLt).trans still
  simp only [State.transferred, mode, off, Bool.and_false, Bool.false_and, and_self]

/-- How the beat ends once the work is taken: beyond what the transfer leaves, no order is sent, the clock stands, and the valve is off where a
hoist is in motion. -/
structure Closes (w t : State) : Prop extends Ends w t where
  sent : t.sent = w.sent
  beat : t.beat = w.beat
  valve : ∀ c (st : StationNo), (w.carriage c).state.hoisting = true → (w.carriage c).position = some (st.val : Int) →
    t.channels[valveOf st].mode = .auto → t.channels[valveOf st].staged = false ∧ t.channels[valveOf st].latch = false

theorem transfer_closes (w : State) (running : List PumpNo) (n : Nat) (due : List FollowUp) :
    Closes w { w.transfer running with draws := n, due := due } where
  toEnds := transfer_ends w running n due
  sent := by simp only [State.transfer]
  beat := by simp only [State.transfer]
  valve _ st hoisting position := (w.transfer_get running (valveOf st)).symm ▸ transferred_hoisting running hoisting position

theorem beat_closes (s : State) : Closes ((workOf s).foldl State.takeTask (workState s)) s.beatEffect := by
  obtain ⟨running, due, effect⟩ := beatEffect_eq s
  rw [effect]
  exact transfer_closes _ running _ due

/-! ### The lift at the target -/

section

variable {s v w t : State} {slot : Slot} {g : Hanger} {c : CarriageId} {j : Job} {tg : Nat} (a : AtSignal slot g s v w) (closes : Closes w t)
  (target : g.target = some tg) (waits : (s.found.carriage c).state = .awaitLift) (job : (s.found.carriage c).job = some j)
  (own : j.slot = slot)
include a closes target waits job own

/-- Short of the target, and while the line is STOPPED, the carriage waits on and the record stays DUE in its bay (R74, R154). -/
theorem AtSignal.awaits (held : s.lineState = .stopped ∨ g.dose < tg) : t.carriage c = s.found.carriage c ∧
    t.hangers[slot] = some g ∧ t.hasMark .overshoot slot.val = s.found.hasMark .overshoot slot.val := by
  have busy : (s.found.carriage c).isFree = false := by simp [Carriage.isFree, waits]
  have carriage := a.carriage c j job own busy
  have after := a.after
  rw [signal_withheld (by rw [a.line, doseReached_iff a.record target]; simpa using held)] at after
  refine ⟨?_, ?_, ?_⟩
  · rw [closes.carriages, after.hoist c j (by rw [carriage]; exact job) own (by rw [carriage]; exact busy), carriage]
  · rw [closes.hangers, (a.quiet.apart after.toPasses).record, a.record]
  · rw [closes.hasMark, after.spared a.quiet .overshoot rfl, a.mark]

/-- At the target the carriage sends LIFT (R73, R75, R76, R120, R140). -/
theorem AtSignal.lifts (goes : s.lineState ≠ .stopped) (reached : tg ≤ g.dose) : State.sendsLift c j g s.found t := by
  have busy : (s.found.carriage c).isFree = false := by simp [Carriage.isFree, waits]
  have carriage := a.carriage c j job own busy
  subst own
  obtain ⟨state, job', order, sent, ⟨record, overshoot⟩, _⟩ := signal_sendsLift (s := v) (c := c) (by rw [a.line]; exact goes)
    (by rw [carriage]; exact waits) (by rw [carriage]; exact job) rfl a.record target reached
  have still := a.quiet.signalled
  have lifting : w.carriage c = (v.signal j.slot).carriage c := a.after.hoist c _ job' rfl (by simp [Carriage.isFree, state])
  have beat : t.beat = (v.signal j.slot).beat := closes.beat.trans a.after.toTends.beat
  unfold State.sendsLift State.liftsRecord
  rw [closes.carriages, lifting, beat, ← a.params, ← a.legs, closes.sent, closes.hangers, closes.hasMark,
    (still.apart a.after.toPasses).record, a.after.spared still .overshoot rfl, ← a.mark]
  refine ⟨state, job', order, a.after.sent _ sent, ⟨record, overshoot⟩, fun position => closes.valve c _ ?_ ?_⟩
  · rw [lifting, state]
    rfl
  · rw [lifting]
    exact position

end

/-! ### The claim -/

theorem developed_eq (h : Hanger) (table : Vector Nat 17) (x : Station) : h.developed (beatYield table x) (incrementProvisional table x) =
    { h with
      dose := min 16777215 (h.dose + (h.fraction + 2 * (stationRate table x).1 * x.activity) / 262144)
      fraction := (h.fraction + 2 * (stationRate table x).1 * x.activity) % 262144
      provisional := h.provisional || (stationRate table x).2 || decide (0 < x.deficit) } := by
  simp only [Hanger.developed, incremented, beatYield, incrementProvisional, Bool.or_assoc]

theorem incrementProvisional_iff (table : Vector Nat 17) (x : Station) :
    incrementProvisional table x = true ↔ (stationRate table x).2 = true ∨ 0 < x.deficit := by
  simp [incrementProvisional]

/-- Settles O15: other work leaves a quiet slot as it is, so that the record's one increment is taken from the aged reading, and a carriage
that awaits the dose finds it there. -/
theorem beatsDevelopTheFilm : Obligations.BeatsDevelopTheFilm := by
  unfold Obligations.BeatsDevelopTheFilm
  intro s t slot h r next live place hangs kind quiet bath x n provisional
  obtain rfl : s.beatEffect = t := Host.Outcome.next.inj next
  have work := work_increments live place hangs kind quiet bath
  have closes := beat_closes s
  have cause : incrementProvisional s.rates x = true ↔ provisional := incrementProvisional_iff s.rates x
  refine ⟨?_, fun c j target due given waits job own => ?_⟩
  · obtain ⟨h', record, film, marked⟩ := work.record
    refine ⟨h', by rw [closes.hangers]; exact record, film.dose, film.fraction, ?_, film.target, fun fresh unset => ?_⟩
    · rw [film.provisional, ← cause]
      exact Bool.or_eq_true_iff
    · rw [closes.hasMark]
      exact marked (cause.2 fresh) unset
  · obtain ⟨v, a⟩ := work.due due (workState_quiet quiet)
    rw [developed_eq h s.rates x] at a
    refine ⟨fun goes reached => a.lifts closes given waits job own goes reached, fun held => ?_⟩
    obtain ⟨carriage, record, mark⟩ := a.awaits closes given waits job own held
    exact ⟨carriage, record, by rw [mark]⟩

end Sys2Proof.Machine.Development
end

section
/-! Pump runs that end short (R87), and channels staged off (R136): what the operations that end runs do to the stations, the channels and the
marks, said once for the LINE STOP input, SET BATH PARAMETERS, SET CHANNEL MODE and ENABLE OUTPUTS. -/

namespace Sys2Proof.Machine.PumpRuns

open Sys2Proof.Machine.RecipeBanks Sys2Proof.Machine.HangerTable

/-! ### Channels silenced -/

/-- The channels that `off` names are staged off with their latch where they are in AUTO, and every other channel stands (R136). -/
structure SilencesAuto (off : ChannelNo → Prop) (s t : State) : Prop where
  silenced : ∀ ch : ChannelNo, s.channels[ch].mode = .auto → off ch → t.channels[ch] = s.channels[ch].silenced
  kept : ∀ ch : ChannelNo, ¬(s.channels[ch].mode = .auto ∧ off ch) → t.channels[ch] = s.channels[ch]

section

variable {off more : ChannelNo → Prop} {s t u : State}

theorem SilencesAuto.cases (m : SilencesAuto off s t) (ch : ChannelNo) :
    (s.channels[ch].mode = .auto ∧ off ch) ∧ t.channels[ch] = s.channels[ch].silenced ∨
      ¬(s.channels[ch].mode = .auto ∧ off ch) ∧ t.channels[ch] = s.channels[ch] := by
  by_cases named : s.channels[ch].mode = .auto ∧ off ch
  · exact .inl ⟨named, m.silenced ch named.1 named.2⟩
  · exact .inr ⟨named, m.kept ch named⟩

theorem SilencesAuto.mode (m : SilencesAuto off s t) (ch : ChannelNo) : t.channels[ch].mode = s.channels[ch].mode := by
  rcases m.cases ch with ⟨_, e⟩ | ⟨_, e⟩ <;> rw [e]
  rfl

theorem SilencesAuto.enable (m : SilencesAuto off s t) (ch : ChannelNo) : t.channels[ch].enable = s.channels[ch].enable := by
  rcases m.cases ch with ⟨_, e⟩ | ⟨_, e⟩ <;> rw [e]
  rfl

/-- No latch comes on. -/
theorem SilencesAuto.latch (m : SilencesAuto off s t) {ch : ChannelNo} (dark : s.channels[ch].latch = false) :
    t.channels[ch].latch = false := by
  rcases m.cases ch with ⟨_, e⟩ | ⟨_, e⟩ <;> rw [e]
  · rfl
  · exact dark

theorem SilencesAuto.staged_iff (m : SilencesAuto off s t) (ch : ChannelNo) :
    t.channels[ch].staged = true ↔ s.channels[ch].staged = true ∧ ¬(s.channels[ch].mode = .auto ∧ off ch) := by
  rcases m.cases ch with ⟨named, e⟩ | ⟨other, e⟩ <;> rw [e]
  · exact iff_of_false (fun on => by cases on) fun on => on.2 named
  · simp only [other, not_false_eq_true, and_true]

theorem SilencesAuto.of_same (same : t.channels = s.channels) : SilencesAuto (fun _ => False) s t where
  silenced _ _ none := none.elim
  kept ch _ := by rw [same]

theorem SilencesAuto.congr (m : SilencesAuto off s t) (same : ∀ ch, off ch ↔ more ch) : SilencesAuto more s t := by
  obtain rfl : off = more := funext fun ch => propext (same ch)
  exact m

theorem SilencesAuto.trans (a : SilencesAuto off s t) (b : SilencesAuto more t u) : SilencesAuto (fun ch => off ch ∨ more ch) s u where
  silenced ch auto named := by
    have auto' := (a.mode ch).trans auto
    rcases b.cases ch with ⟨_, second⟩ | ⟨other, second⟩ <;> rcases a.cases ch with ⟨_, first⟩ | ⟨rest, first⟩ <;> rw [second, first]
    · rfl
    · exact absurd ⟨auto, named.resolve_right fun x => other ⟨auto', x⟩⟩ rest
  kept ch other := by
    rw [b.kept ch fun x => other ⟨(a.mode ch).symm.trans x.1, .inr x.2⟩, a.kept ch fun x => other ⟨x.1, .inl x.2⟩]

theorem silenceAuto_silences (s : State) (ch : ChannelNo) : SilencesAuto (· = ch) s (s.silenceAuto ch) where
  silenced i auto own := by
    subst own
    rw [State.silenceAuto, if_pos auto, State.setChannel_get, if_pos rfl]
  kept i other := by
    unfold State.silenceAuto
    split
    · next auto =>
      have apart : i ≠ ch := fun same => other ⟨same ▸ auto, same⟩
      rw [State.setChannel_get, if_neg apart]
    · rfl

end

/-! ### Runs ended short -/

/-- A station whose run has ended short: the replenishment is back in the pending count, or dropped where the count stands at 3 (R87). -/
def cutShort (x : Station) : Station :=
  { x with runRemaining := none, pendingRuns := if x.pendingRuns < 3 then x.pendingRuns + 1 else x.pendingRuns }

/-- The runs of the stations that `ends` names, each of them in progress, end short, with REPLENISH_BACKLOG where the replenishment is dropped
(R87); beyond channels nothing else changes. -/
structure EndsRuns (ends : StationNo → Prop) (s t : State) : Prop extends Still s t where
  sent : t.sent = s.sent
  cut : ∀ st, ends st → t.stations[st] = cutShort s.stations[st]
  kept : ∀ st, ¬ends st → t.stations[st] = s.stations[st]
  marks : ∀ k n, t.hasMark k n = true ↔ s.hasMark k n = true ∨
    (k = .replenishBacklog ∧ ∃ st : StationNo, n = st.val ∧ ends st ∧ 3 ≤ s.stations[st].pendingRuns)

section

variable {ends more : StationNo → Prop} {s t u : State}

theorem EndsRuns.congr (m : EndsRuns ends s t) (same : ∀ st, ends st ↔ more st) : EndsRuns more s t := by
  obtain rfl : ends = more := funext fun st => propext (same st)
  exact m

theorem EndsRuns.pump (m : EndsRuns ends s t) (st : StationNo) : t.stations[st].pump = s.stations[st].pump := by
  by_cases named : ends st
  · rw [m.cut st named]
    rfl
  · rw [m.kept st named]

/-- Writes of channels end no run. -/
theorem EndsRuns.of_same (still : Still s t) (sent : t.sent = s.sent) (stations : t.stations = s.stations) (marks : t.marks = s.marks) :
    EndsRuns (fun _ => False) s t where
  toStill := still
  sent := sent
  cut _ none := none.elim
  kept st _ := by rw [stations]
  marks k n := by simp [hasMark_congr marks]

theorem EndsRuns.refl (s : State) : EndsRuns (fun _ => False) s s := .of_same ⟨rfl, rfl, rfl, fun _ => rfl⟩ rfl rfl rfl

theorem setChannel_ends (s : State) (ch : ChannelNo) (x : Channel) : EndsRuns (fun _ => False) s (s.setChannel ch x) :=
  .of_same ⟨rfl, rfl, rfl, fun c => by cases c <;> rfl⟩ rfl rfl rfl

/-- Of runs ended one after another, none twice, each is as it was found. -/
theorem EndsRuns.trans (a : EndsRuns ends s t) (b : EndsRuns more t u) (once : ∀ st, ends st → ¬more st) :
    EndsRuns (fun st => ends st ∨ more st) s u where
  toStill := a.toStill.trans b.toStill
  sent := b.sent.trans a.sent
  cut st named := by
    by_cases first : ends st
    · rw [b.kept st (once st first), a.cut st first]
    · rw [b.cut st (named.resolve_left first), a.kept st first]
  kept st other := by rw [b.kept st fun x => other (.inr x), a.kept st fun x => other (.inl x)]
  marks k n := by
    have found : ∀ st, more st → t.stations[st] = s.stations[st] := fun st second => a.kept st fun first => once st first second
    rw [b.marks, a.marks, or_assoc, ← and_or_left, ← exists_or]
    refine or_congr_right (and_congr_right' (exists_congr fun st => ?_))
    constructor
    · rintro (⟨subject, first, full⟩ | ⟨subject, second, full⟩)
      · exact ⟨subject, .inl first, full⟩
      · exact ⟨subject, .inr second, found st second ▸ full⟩
    · rintro ⟨subject, first | second, full⟩
      · exact .inl ⟨subject, first, full⟩
      · exact .inr ⟨subject, second, (found st second).symm ▸ full⟩

theorem silenceAuto_ends (s : State) (ch : ChannelNo) : EndsRuns (fun _ => False) s (s.silenceAuto ch) := by
  unfold State.silenceAuto
  split
  · exact setChannel_ends s ch _
  · exact .refl s

end

/-! ### The run of one station -/

section

variable (s : State) (st : StationNo)

/-- The record and the mark of a run that ends short, before its channel is staged off. -/
def cutRecord : State :=
  if s.stations[st].pendingRuns < 3
    then s.setStation st { s.stations[st] with runRemaining := none, pendingRuns := s.stations[st].pendingRuns + 1 }
    else (s.setStation st { s.stations[st] with runRemaining := none }).mark .replenishBacklog st.val

theorem cutRunShort_idle (idle : s.stations[st].runRemaining = none) : s.cutRunShort st = s := by
  simp only [State.cutRunShort, idle]

theorem cutRunShort_running (runs : s.stations[st].runRemaining ≠ none) : s.cutRunShort st =
    s.stations[st].pump.elim (cutRecord s st) fun p => (cutRecord s st).silenceAuto (pumpChannel p) := by
  obtain ⟨n, run⟩ := Option.ne_none_iff_exists'.1 runs
  rcases pump : s.stations[st].pump with _ | p <;> simp only [State.cutRunShort, cutRecord, run, pump, Option.elim]

theorem cutRecord_channels : (cutRecord s st).channels = s.channels := by
  unfold cutRecord
  split <;> rfl

theorem cutRecord_ends : EndsRuns (· = st) s (cutRecord s st) := by
  unfold cutRecord
  split
  · next room => exact {
      toStill := setStation_still s st _
      sent := rfl
      cut := fun i own => by subst own; rw [State.setStation_get, if_pos rfl, cutShort, if_pos room]
      kept := fun i other => by rw [State.setStation_get, if_neg other]
      marks := fun k n => (or_iff_left fun ⟨_, i, _, own, full⟩ => by subst own; omega).symm }
  · next full => exact {
      toStill := (setStation_still s st _).trans ⟨rfl, rfl, rfl, fun c => mark_carriage _ _ _ c⟩
      sent := rfl
      cut := fun i own => by subst own; rw [State.mark_stations, State.setStation_get, if_pos rfl, cutShort, if_neg full]
      kept := fun i other => by rw [State.mark_stations, State.setStation_get, if_neg other]
      marks := fun k n => by
        rw [hasMark_mark_iff]
        refine or_congr_right (and_congr_right' ⟨fun subject => ⟨st, subject, rfl, by omega⟩, ?_⟩)
        rintro ⟨_, subject, rfl, _⟩
        exact subject }

/-- All that the end of one run can do to stations and marks (R87). -/
theorem cutRunShort_ends : EndsRuns (fun i => i = st ∧ s.stations[st].runRemaining ≠ none) s (s.cutRunShort st) := by
  by_cases runs : s.stations[st].runRemaining = none
  · rw [cutRunShort_idle s st runs]
    exact (EndsRuns.refl s).congr fun _ => ⟨False.elim, fun own => own.2 runs⟩
  · rw [cutRunShort_running s st runs]
    have record := (cutRecord_ends s st).congr fun i => (and_iff_left (a := i = st) runs).symm
    cases s.stations[st].pump with
    | none => exact record
    | some p => exact (record.trans (silenceAuto_ends _ _) fun _ _ none => none).congr fun _ => or_iff_left id

/-- All that it can do to channels (R87, R141). -/
theorem cutRunShort_silences : SilencesAuto (fun ch => s.stations[st].runRemaining ≠ none ∧ s.stations[st].pump.map pumpChannel = some ch)
    s (s.cutRunShort st) := by
  by_cases runs : s.stations[st].runRemaining = none
  · rw [cutRunShort_idle s st runs]
    exact (SilencesAuto.of_same rfl).congr fun _ => ⟨False.elim, fun own => own.1 runs⟩
  · rw [cutRunShort_running s st runs]
    have record := SilencesAuto.of_same (cutRecord_channels s st)
    refine SilencesAuto.congr (off := fun ch => s.stations[st].pump.map pumpChannel = some ch) ?_ fun _ => (and_iff_right runs).symm
    cases s.stations[st].pump with
    | none => exact record.congr fun _ => ⟨False.elim, fun own => by cases own⟩
    | some p => exact (record.trans (silenceAuto_silences _ _)).congr fun ch => by simp [eq_comm]

end

/-! ### The run on a channel -/

/-- A station holds a pump channel (R141). -/
def Holds (s : State) (ch : ChannelNo) (st : StationNo) : Prop := s.stations[st].pump.map pumpChannel = some ch

/-- Of the stations that hold a channel, the lowest; R90 lets none but one hold it. -/
def HoldsFirst (s : State) (ch : ChannelNo) (st : StationNo) : Prop := Holds s ch st ∧ ∀ i, Holds s ch i → st ≤ i

section

variable {s t : State} {ch : ChannelNo} {st : StationNo}

theorem HoldsFirst.unique {i : StationNo} (a : HoldsFirst s ch st) (b : HoldsFirst s ch i) : i = st :=
  le_antisymm (b.2 st a.1) (a.2 i b.1)

/-- A station holds one channel at most. -/
theorem Holds.channel {i : ChannelNo} (a : Holds s ch st) (b : Holds s i st) : ch = i := Option.some.inj (a.symm.trans b)

theorem holdsFirst_congr (pumps : ∀ i : StationNo, t.stations[i].pump = s.stations[i].pump) : HoldsFirst t ch st ↔ HoldsFirst s ch st := by
  simp only [HoldsFirst, Holds, pumps]

theorem holdsFirst_or_unheld (s : State) (ch : ChannelNo) : (∃ st, HoldsFirst s ch st) ∨ ∀ st, ¬Holds s ch st := by
  by_cases any : ∃ st, Holds s ch st
  · obtain ⟨least, own, before⟩ := wellFounded_lt.has_min {st | Holds s ch st} any
    exact .inl ⟨least, own, fun i held => not_lt.1 (before i held)⟩
  · exact .inr fun st held => any ⟨st, held⟩

theorem pumpChannel_injective {p q : PumpNo} (same : pumpChannel p = pumpChannel q) : p = q := by
  have value : 16 + p.val = 16 + q.val := congrArg Fin.val same
  exact Fin.ext (by omega)

theorem holds_pump {p : PumpNo} : Holds s (pumpChannel p) st ↔ s.stations[st].pump = some p := by
  unfold Holds
  rw [Option.map_eq_some_iff]
  constructor
  · rintro ⟨q, pump, same⟩
    rw [pump, pumpChannel_injective same]
  · exact fun pump => ⟨p, pump, rfl⟩

theorem pumpOwner_of_first {p : PumpNo} (first : HoldsFirst s (pumpChannel p) st) : s.pumpOwner p = some st := by
  refine find?_of_least (List.pairwise_lt_finRange 16) (List.mem_finRange st) (beq_iff_eq.2 (holds_pump.1 first.1)) fun i before => ?_
  exact beq_eq_false_iff_ne.2 fun pump => absurd (first.2 i (holds_pump.2 pump)) (not_le.2 before)

theorem pumpOwner_of_unheld {p : PumpNo} (unheld : ∀ st, ¬Holds s (pumpChannel p) st) : s.pumpOwner p = none :=
  List.find?_eq_none.2 fun i _ pump => unheld i (holds_pump.2 (beq_iff_eq.1 pump))

/-- A channel above the valves is that of a pump (R135). -/
theorem pumpChannel_of_not_valve (pump : ¬ch.val < 16) : ch = pumpChannel ⟨ch.val - 16, by omega⟩ :=
  Fin.ext (show ch.val = 16 + (ch.val - 16) by omega)

theorem Holds.not_valve (held : Holds s ch st) : ¬ch.val < 16 := by
  obtain ⟨p, _, rfl⟩ := Option.map_eq_some_iff.1 held
  simp [pumpChannel]

theorem cutRunOn_first (first : HoldsFirst s ch st) : s.cutRunOn ch = s.cutRunShort st := by
  have pump := first.1.not_valve
  have owner := pumpOwner_of_first (pumpChannel_of_not_valve pump ▸ first)
  rw [State.cutRunOn, dif_neg pump, owner]

theorem cutRunOn_unheld (unheld : ∀ st, ¬Holds s ch st) : s.cutRunOn ch = s := by
  by_cases pump : ch.val < 16
  · exact dif_pos pump
  · have owner := pumpOwner_of_unheld (pumpChannel_of_not_valve pump ▸ unheld)
    rw [State.cutRunOn, dif_neg pump, owner]

/-- All that the end of the run on a channel can do to stations and marks (R87). -/
theorem cutRunOn_ends (s : State) (ch : ChannelNo) :
    EndsRuns (fun i => HoldsFirst s ch i ∧ s.stations[i].runRemaining ≠ none) s (s.cutRunOn ch) := by
  rcases holdsFirst_or_unheld s ch with ⟨st, first⟩ | unheld
  · rw [cutRunOn_first first]
    refine (cutRunShort_ends s st).congr fun i => ⟨?_, ?_⟩
    · rintro ⟨rfl, runs⟩
      exact ⟨first, runs⟩
    · rintro ⟨own, runs⟩
      obtain rfl := first.unique own
      exact ⟨rfl, runs⟩
  · rw [cutRunOn_unheld unheld]
    exact (EndsRuns.refl s).congr fun i => ⟨False.elim, fun x => unheld i x.1.1⟩

/-- It can silence that channel alone. -/
theorem cutRunOn_silences (s : State) (ch : ChannelNo) :
    SilencesAuto (fun i => i = ch ∧ ∃ st, HoldsFirst s ch st ∧ s.stations[st].runRemaining ≠ none) s (s.cutRunOn ch) := by
  rcases holdsFirst_or_unheld s ch with ⟨st, first⟩ | unheld
  · rw [cutRunOn_first first]
    refine (cutRunShort_silences s st).congr fun i => ⟨?_, ?_⟩
    · rintro ⟨runs, pump⟩
      exact ⟨Holds.channel pump first.1, st, first, runs⟩
    · rintro ⟨rfl, j, own, runs⟩
      obtain rfl := first.unique own
      exact ⟨runs, first.1⟩
  · rw [cutRunOn_unheld unheld]
    exact (SilencesAuto.of_same rfl).congr fun i => ⟨False.elim, fun ⟨_, st, x, _⟩ => unheld st x.1⟩

end

end Sys2Proof.Machine.PumpRuns
end

section
/-! The LINE STOP input (R87, R136, R140, R151, R152): the channels are cut, the pump runs end short, and the carriages halt. -/

namespace Sys2Proof.Machine.PumpRuns

open Sys2Proof.Machine.RecipeBanks Sys2Proof.Machine.HangerTable

/-! ### Every run ends short -/

/-- The runs in progress at stations of a list end short, each once (R87). -/
theorem cutRunsOf_ends (l : List StationNo) (once : l.Nodup) (s : State) :
    EndsRuns (fun st => st ∈ l ∧ s.stations[st].runRemaining ≠ none) s (l.foldl (fun s st => s.cutRunShort st) s) := by
  induction l generalizing s with
  | nil => exact (EndsRuns.refl s).congr fun st => by simp
  | cons i l ih =>
    obtain ⟨out, rest⟩ := List.nodup_cons.1 once
    have first := cutRunShort_ends s i
    have later : ∀ st, st ∈ l → (s.cutRunShort i).stations[st] = s.stations[st] := fun st mem =>
      first.kept st fun own => out (own.1 ▸ mem)
    refine (first.trans (ih rest _) fun st own mem => out (own.1 ▸ mem.1)).congr fun st => ?_
    rw [List.mem_cons, or_and_right]
    refine or_congr ⟨?_, ?_⟩ (and_congr_right fun mem => by rw [later st mem])
    · rintro ⟨rfl, runs⟩
      exact ⟨rfl, runs⟩
    · rintro ⟨rfl, runs⟩
      exact ⟨rfl, runs⟩

/-- Their pump channels are silenced (R87, R141). -/
theorem cutRunsOf_silences (l : List StationNo) (once : l.Nodup) (s : State) :
    SilencesAuto (fun ch => ∃ st ∈ l, s.stations[st].runRemaining ≠ none ∧ s.stations[st].pump.map pumpChannel = some ch) s
      (l.foldl (fun s st => s.cutRunShort st) s) := by
  induction l generalizing s with
  | nil => exact (SilencesAuto.of_same rfl).congr fun ch => by simp
  | cons i l ih =>
    obtain ⟨out, rest⟩ := List.nodup_cons.1 once
    have later : ∀ st, st ∈ l → (s.cutRunShort i).stations[st] = s.stations[st] := fun st mem =>
      (cutRunShort_ends s i).kept st fun own => out (own.1 ▸ mem)
    refine ((cutRunShort_silences s i).trans (ih rest _)).congr fun ch => ?_
    rw [List.exists_mem_cons_iff]
    exact or_congr_right (exists_congr fun st => and_congr_right fun mem => by rw [later st mem])

/-! ### A carriage halts -/

/-- A carriage with an order outstanding has its hoist in motion over the station of a valve (R140). -/
def HoistsOver (x : Carriage) (ch : ChannelNo) : Prop := ∃ j, x.order ≠ none ∧ x.job = some j ∧
  (j.phase = .lifting ∧ valveOf j.source.station = ch ∨ j.phase = .lowering ∧ valveOf j.destination.station = ch)

theorem silenceHoist_silences (s : State) (j : Job) :
    SilencesAuto (fun ch => j.phase = .lifting ∧ valveOf j.source.station = ch ∨ j.phase = .lowering ∧ valveOf j.destination.station = ch)
      s (s.silenceHoist j) := by
  unfold State.silenceHoist
  split
  · next phase => exact (silenceAuto_silences s _).congr fun ch => by simp [phase, eq_comm]
  · next phase => exact (silenceAuto_silences s _).congr fun ch => by simp [phase, eq_comm]
  · next lifts lowers =>
    refine (SilencesAuto.of_same rfl).congr fun ch => ⟨False.elim, ?_⟩
    rintro (⟨phase, _⟩ | ⟨phase, _⟩)
    · exact lifts phase
    · exact lowers phase

/-- What a halt leaves (R115, R140, R152): the order is kept as the halted one, HALT goes out, and the valve under a hoist in motion is shut. -/
structure Halts (c : CarriageId) (s t : State) : Prop where
  settings : t.settings = s.settings
  hangers : t.hangers = s.hangers
  queue : t.queue = s.queue
  stations : t.stations = s.stations
  marks : t.marks = s.marks
  sent : t.sent = s.sent ++ if (s.carriage c).order.isSome then [(c, .halt)] else []
  idle : (s.carriage c).order = none → t.carriage c = s.carriage c
  halted : ∀ o, (s.carriage c).order = some o →
    t.carriage c = { s.carriage c with state := .halted, order := none, halted := some o.order }
  other : t.carriage (otherCarriage c) = s.carriage (otherCarriage c)
  channels : SilencesAuto (HoistsOver (s.carriage c)) s t

/-- The order of a carriage is taken back with HALT, before the valve is shut. -/
def withHalt (s : State) (c : CarriageId) (o : Outstanding) : State :=
  { s.setCarriage c { s.carriage c with state := .halted, order := none, halted := some o.order } with sent := s.sent ++ [(c, .halt)] }

theorem withHalt_halts {s : State} {c : CarriageId} {o : Outstanding} (order : (s.carriage c).order = some o) {t : State}
    (same : t.settings = (withHalt s c o).settings ∧ t.queue = (withHalt s c o).queue ∧ t.sent = (withHalt s c o).sent ∧
      t.hangers = (withHalt s c o).hangers ∧ t.marks = (withHalt s c o).marks ∧ t.stations = (withHalt s c o).stations)
    (carriages : ∀ i, t.carriage i = (withHalt s c o).carriage i) (channels : SilencesAuto (HoistsOver (s.carriage c)) (withHalt s c o) t) :
    Halts c s t := by
  obtain ⟨settings, queue, sent, hangers, marks, stations⟩ := same
  have kept : (withHalt s c o).channels = s.channels := by cases c <;> rfl
  exact {
    settings := settings.trans (by cases c <;> rfl)
    hangers := hangers.trans (by cases c <;> rfl)
    queue := queue.trans (by cases c <;> rfl)
    stations := stations.trans (by cases c <;> rfl)
    marks := marks.trans (by cases c <;> rfl)
    sent := sent.trans (by rw [order]; rfl)
    idle := fun none => by rw [none] at order; cases order
    halted := fun o' order' => by
      obtain rfl := Option.some.inj (order.symm.trans order')
      exact (carriages c).trans (by cases c <;> rfl)
    other := (carriages _).trans (by cases c <;> rfl)
    channels := ((SilencesAuto.of_same kept).trans channels).congr fun ch => or_iff_right id }

theorem haltCarriage_halts (s : State) (c : CarriageId) : Halts c s (s.haltCarriage c) := by
  unfold State.haltCarriage
  dsimp only
  split
  · next order => exact {
      settings := rfl, hangers := rfl, queue := rfl, stations := rfl, marks := rfl
      sent := by simp [order]
      idle := fun _ => rfl
      halted := fun o given => by rw [order] at given; cases given
      other := rfl
      channels := (SilencesAuto.of_same rfl).congr fun ch => ⟨False.elim, fun ⟨_, given, _⟩ => given order⟩ }
  · next o order =>
    have outstanding : (s.carriage c).order ≠ none := by simp [order]
    split
    · next j job =>
      refine withHalt_halts order (silenceHoist_same _ j) (silenceHoist_carriage _ j) ((silenceHoist_silences _ j).congr fun ch => ?_)
      simp only [HoistsOver, job, Option.some.injEq, ne_eq, outstanding, not_false_eq_true, true_and, exists_eq_left']
    · next job =>
      refine withHalt_halts order ⟨rfl, rfl, rfl, rfl, rfl, rfl⟩ (fun _ => rfl) ((SilencesAuto.of_same rfl).congr fun ch => ?_)
      simp only [HoistsOver, job, reduceCtorEq, false_and, and_false, exists_false]

/-! ### The claim -/

/-- The part with the input read and its channels cut, before the runs end and the carriages halt. -/
def stopRead (s : State) : State := { s.found with stopActive := true }.cutChannels

/-- The part with its runs ended and its carriages halted. -/
def stopHalted (s : State) : State := ((stopRead s).cutRuns.haltCarriage .one).haltCarriage .two

theorem lineStop_eq (s : State) (inactive : s.stopActive = false) : exec .lineStopActive s = .next
    { (stopHalted s).mark .lineStopped 0 with lineState := s.found.lineState.halted } := by
  have entered : exec .lineStopActive s = execLineStopActive s := rfl
  rw [entered, execLineStopActive, inactive, if_neg Bool.false_ne_true]
  simp only [State.lineStop, bothCarriages, List.foldl_cons, List.foldl_nil]
  rfl

theorem stopRead_get (s : State) (ch : ChannelNo) : (stopRead s).channels[ch] = s.found.channels[ch].cut := by
  unfold stopRead State.cutChannels
  simp only [Fin.getElem_fin, Vector.getElem_map]

theorem stopRead_carriage (s : State) (c : CarriageId) : (stopRead s).carriage c = s.found.carriage c := by cases c <;> rfl

theorem halted_lineState (l : LineState) : l.halted = if l = .run ∨ l = .paused then .stopped else l := by cases l <;> rfl

theorem found_lineState (s : State) : s.found.lineState = s.lineState := lineState_of_settings (found_settings s)

/-- What the input's becoming active leaves of the part as it was found (R87, R136, R140, R151, R152). -/
structure StopsTheLine (s t : State) : Prop where
  settings : t.settings = { s.settings with stopActive := true }
  hangers : t.hangers = s.hangers
  queue : t.queue = s.queue
  sent : t.sent = s.sent ++ (if s.carriage1.order.isSome then [(.one, .halt)] else [])
    ++ (if s.carriage2.order.isSome then [(.two, .halt)] else [])
  cut : ∀ st : StationNo, s.stations[st].runRemaining ≠ none → t.stations[st] = cutShort s.stations[st]
  kept : ∀ st : StationNo, s.stations[st].runRemaining = none → t.stations[st] = s.stations[st]
  idle : ∀ c, (s.carriage c).order = none → t.carriage c = s.carriage c
  halted : ∀ c o, (s.carriage c).order = some o →
    t.carriage c = { s.carriage c with state := .halted, order := none, halted := some o.order }
  marks : ∀ k n, t.hasMark k n = true ↔ s.hasMark k n = true ∨
    (k = .replenishBacklog ∧ ∃ st : StationNo, n = st.val ∧ s.stations[st].runRemaining ≠ none ∧ 3 ≤ s.stations[st].pendingRuns)
  channels : SilencesAuto (fun ch => (∃ st : StationNo, s.stations[st].runRemaining ≠ none ∧ s.stations[st].pump.map pumpChannel = some ch) ∨
    ∃ c, HoistsOver (s.carriage c) ch) s.cutChannels t

theorem stopHalted_stops (s : State) : StopsTheLine s.found (stopHalted s) := by
  have once : allStations.Nodup := List.nodup_finRange 16
  have every : ∀ st : StationNo, st ∈ allStations := List.mem_finRange
  have runs := (cutRunsOf_ends allStations once (stopRead s)).congr fun st => and_iff_right (every st)
  have pumps := cutRunsOf_silences allStations once (stopRead s)
  have first := haltCarriage_halts (stopRead s).cutRuns .one
  have second := haltCarriage_halts ((stopRead s).cutRuns.haltCarriage .one) .two
  have one : (stopRead s).cutRuns.carriage .one = s.found.carriage .one := (runs.carriages _).trans (stopRead_carriage s _)
  have two : ((stopRead s).cutRuns.haltCarriage .one).carriage .two = s.found.carriage .two :=
    (first.other.trans (runs.carriages _)).trans (stopRead_carriage s _)
  have stations : (stopHalted s).stations = (stopRead s).cutRuns.stations := second.stations.trans first.stations
  exact {
    settings := second.settings.trans (first.settings.trans runs.settings)
    hangers := second.hangers.trans (first.hangers.trans runs.hangers)
    queue := second.queue.trans (first.queue.trans runs.queue)
    sent := by
      have sent := second.sent
      have ran : (stopRead s).cutRuns.sent = s.found.sent := runs.sent
      rw [first.sent, ran, one, two] at sent
      exact sent
    cut := fun st run => by rw [stations]; exact runs.cut st run
    kept := fun st idle => by rw [stations]; exact runs.kept st fun run => run idle
    idle := fun c none => by
      cases c
      · exact second.other.trans ((first.idle (one.symm ▸ none)).trans one)
      · exact (second.idle (two.symm ▸ none)).trans two
    halted := fun c o order => by
      cases c
      · exact second.other.trans ((first.halted o (one.symm ▸ order)).trans (by rw [one]))
      · exact (second.halted o (two.symm ▸ order)).trans (by rw [two])
    marks := fun k n => (Bool.eq_iff_iff.1 (hasMark_congr (second.marks.trans first.marks) k n)).trans (runs.marks k n)
    channels := by
      have silent := (pumps.trans first.channels).trans second.channels
      rw [one, two] at silent
      have silent' : SilencesAuto _ s.found.cutChannels (stopHalted s) := ⟨silent.silenced, silent.kept⟩
      refine silent'.congr fun ch => ?_
      rw [or_assoc]
      refine or_congr (exists_congr fun st => and_iff_right (every st)) ⟨?_, ?_⟩
      · rintro (above | above)
        · exact ⟨.one, above⟩
        · exact ⟨.two, above⟩
      · rintro ⟨_ | _, above⟩
        · exact .inl above
        · exact .inr above }

/-- Settles O12: the channels are cut, each run ends short and each carriage halts, and none of these touches what another has done. -/
theorem lineStopHaltsTheLine : Obligations.LineStopHaltsTheLine := by
  unfold Obligations.LineStopHaltsTheLine
  intro s ends hoists
  refine ⟨fun inactive => ?_, fun active => ?_, rfl⟩
  case refine_2 =>
    have entered : exec .lineStopActive s = execLineStopActive s := rfl
    rw [entered, execLineStopActive, if_pos active]
    rfl
  have entered := lineStop_eq s inactive
  have stops := stopHalted_stops s
  generalize stopHalted s = t at entered stops
  refine ⟨_, entered, ?_, stops.hangers, stops.queue, fun ch => ?_, fun c => ?_, stops.sent, fun st => ?_, fun k n => ?_⟩
  · have told : s.found.lineState.halted = if s.lineState = .run ∨ s.lineState = .paused then .stopped else s.lineState := by
      rw [found_lineState, halted_lineState]
    rw [← told]
    exact congrArg (fun x : Settings => { x with lineState := s.found.lineState.halted }) stops.settings
  · have cut : s.found.cutChannels.channels[ch] = s.found.channels[ch].cut := stopRead_get s ch
    have staged := stops.channels.staged_iff ch
    rw [cut] at staged
    refine ⟨?_, ?_, stops.channels.latch (by rw [cut]; rfl), staged.trans ?_⟩
    · exact (stops.channels.mode ch).trans (by rw [cut]; rfl)
    · exact (stops.channels.enable ch).trans (by rw [cut]; rfl)
    · refine and_congr_right' (not_congr (and_congr_right' (or_congr ⟨?_, ?_⟩ Iff.rfl)))
      · rintro ⟨st, runs, pump⟩
        obtain ⟨p, pump, same⟩ := Option.map_eq_some_iff.1 pump
        exact ⟨st, p, runs, pump, same⟩
      · rintro ⟨st, p, runs, pump, same⟩
        exact ⟨st, runs, Option.map_eq_some_iff.2 ⟨p, pump, same⟩⟩
  · split
    · next idle => exact stops.idle c idle
    · next o order => exact stops.halted c o order
  · split
    · next runs => exact stops.cut st (Option.isSome_iff_ne_none.1 runs)
    · next idle => exact stops.kept st (Option.not_isSome_iff_eq_none.1 idle)
  · have marked : ({ t.mark .lineStopped 0 with lineState := s.found.lineState.halted } : State).hasMark k n = (t.mark .lineStopped 0).hasMark k n := rfl
    rw [marked, hasMark_mark_iff, stops.marks, or_right_comm, or_assoc]

end Sys2Proof.Machine.PumpRuns
end

section
/-! SET CHANNEL MODE and SET PATTERN (R138, R142, R145). -/

namespace Sys2Proof.Machine.PumpRuns

open Sys2Proof.Machine.RecipeBanks Sys2Proof.Machine.HangerTable

/-! ### A run that its channel no longer carries -/

section

variable (s : State) (ch : ChannelNo) (leaves : Prop) [Decidable leaves]

/-- Where a channel no longer carries runs, the run of the lowest station that holds it ends short (R87, R142, R143). -/
theorem cutRunOn_if_ends : EndsRuns (fun st => leaves ∧ HoldsFirst s ch st ∧ s.stations[st].runRemaining ≠ none) s
    (if leaves then s.cutRunOn ch else s) := by
  split
  · next left => exact (cutRunOn_ends s ch).congr fun st => (and_iff_right left).symm
  · next stays => exact (EndsRuns.refl s).congr fun st => ⟨False.elim, fun own => stays own.1⟩

/-- It can silence that channel alone. -/
theorem cutRunOn_if_silences :
    SilencesAuto (fun i => i = ch ∧ leaves ∧ ∃ st, HoldsFirst s ch st ∧ s.stations[st].runRemaining ≠ none) s
      (if leaves then s.cutRunOn ch else s) := by
  split
  · next left => exact (cutRunOn_silences s ch).congr fun i => and_congr_right' (and_iff_right left).symm
  · next stays => exact (SilencesAuto.of_same rfl).congr fun st => ⟨False.elim, fun own => stays own.2.1⟩

/-- Then the channel is written. -/
theorem cutRunOn_if_written (x : Channel) : EndsRuns (fun st => leaves ∧ HoldsFirst s ch st ∧ s.stations[st].runRemaining ≠ none) s
    ((if leaves then s.cutRunOn ch else s).setChannel ch x) :=
  ((cutRunOn_if_ends s ch leaves).trans (setChannel_ends _ ch x) fun _ _ none => none).congr fun _ => or_iff_left id

theorem cutRunOn_if_get (x : Channel) (i : ChannelNo) : ((if leaves then s.cutRunOn ch else s).setChannel ch x).channels[i] =
    if i = ch then x else s.channels[i] := by
  rw [State.setChannel_get]
  split
  · rfl
  · next other => exact (cutRunOn_if_silences s ch leaves).kept i fun named => other named.2.1

end

/-! ### SET CHANNEL MODE -/

section

variable {s : State} {ch : ChannelNo} {mode : ChannelMode}

theorem changeMode_ends : EndsRuns (fun st => s.channels[ch].mode = .auto ∧ HoldsFirst s ch st ∧ s.stations[st].runRemaining ≠ none) s
    (s.changeMode ch mode) := cutRunOn_if_written s ch _ _

theorem changeMode_get (i : ChannelNo) : (s.changeMode ch mode).channels[i] =
    if i = ch then ⟨mode, s.channels[ch].enable, false, false⟩ else s.channels[i] := by
  refine (cutRunOn_if_get s ch _ _ i).trans ?_
  rw [← (cutRunOn_if_silences s ch (s.channels[ch].mode = .auto)).enable ch]

theorem modeOf_code (mode : ChannelMode) : modeOf (byte mode.code) = some mode := by cases mode <;> rfl

theorem modeOf_eq_none {b : Byte} (high : 3 ≤ b.toNat) : modeOf b = none := by
  unfold modeOf
  split
  · omega
  · omega
  · omega
  · rfl

theorem setChannelModeBody_pair (ch : ChannelNo) (mode : ChannelMode) (t : State) : setChannelModeBody [byte ch.val, byte mode.code] t =
    if t.channels[ch].mode = mode then .accepted t 1 [] else .accepted (t.changeMode ch mode) 0 [] := by
  simp only [setChannelModeBody, finOf_byte (by decide : 20 ≤ 256) ch, modeOf_code]

theorem setChannelModeBody_form {p : List Byte} (t : State) (h : p.length ≠ 2) : setChannelModeBody p t = .refused .badForm 0 := by
  unfold setChannelModeBody
  split
  · simp at h
  · rfl

theorem setChannelModeBody_channel {a b : Byte} (t : State) (high : 20 ≤ a.toNat) : setChannelModeBody [a, b] t = .refused .badForm 1 := by
  simp only [setChannelModeBody, finOf_eq_none.2 high]

theorem setChannelModeBody_mode {a b : Byte} (t : State) (low : a.toNat < 20) (high : 3 ≤ b.toNat) :
    setChannelModeBody [a, b] t = .refused .badForm 2 := by
  have channel : finOf 20 a = some ⟨a.toNat, low⟩ := dif_pos low
  simp only [setChannelModeBody, channel, modeOf_eq_none high]

end

/-! ### SET PATTERN -/

section

variable {a initial burst period : Byte} {t : State}

theorem entryOf_byte (e : Fin 7) : entryOf (byte (e.val + 1)) = some e := by
  revert e
  decide

theorem entryOf_eq_none (h : a = 0 ∨ 7 < a.toNat) : entryOf a = none := by
  unfold entryOf
  split
  · rfl
  · next some =>
    refine finOf_eq_none.2 ?_
    have high := h.resolve_left some
    bv_omega

theorem patternOf_eq (high : 2 ≤ period.toNat) : patternOf initial burst period =
    ⟨initial.toNat, if burst.toNat < period.toNat then burst.toNat else period.toNat - 1, period.toNat⟩ := by
  unfold patternOf
  congr 1
  split <;> omega

theorem setPatternBody_entry (e : Fin 7) (some : burst ≠ 0) (high : 2 ≤ period.toNat) :
    let stored := if burst.toNat < period.toNat then burst.toNat else period.toNat - 1
    setPatternBody [byte (e.val + 1), initial, burst, period] t =
      .accepted { t with patterns := t.patterns.set e.val ⟨initial.toNat, stored, period.toNat⟩ } (if stored = burst.toNat then 0 else 1)
        [byte (e.val + 1), initial, byte stored, period] := by
  intro stored
  have clamped : bit (decide (period.toNat ≤ burst.toNat)) = if stored = burst.toNat then 0 else 1 := by
    unfold stored bit
    by_cases within : burst.toNat < period.toNat
    · simp [within]
    · have beyond : ¬period.toNat - 1 = burst.toNat := by omega
      simp [within, beyond, not_lt.1 within]
  have low : ¬period.toNat < 2 := by omega
  simp only [setPatternBody, entryOf_byte, if_neg some, if_neg low, patternOf_eq high, clamped, Pattern.bytes, byte_toNat]
  rfl

theorem setPatternBody_form {p : List Byte} (h : p.length ≠ 4) : setPatternBody p t = .refused .badForm 0 := by
  unfold setPatternBody
  split
  · simp at h
  · rfl

theorem setPatternBody_fixed (h : a = 0 ∨ 7 < a.toNat) : setPatternBody [a, initial, burst, period] t = .refused .badForm 1 := by
  simp only [setPatternBody, entryOf_eq_none h]

theorem setPatternBody_burst (e : Fin 7) : setPatternBody [byte (e.val + 1), initial, 0, period] t = .refused .badForm 3 := by
  simp only [setPatternBody, entryOf_byte, if_pos]

theorem setPatternBody_period (e : Fin 7) (some : burst ≠ 0) (low : period.toNat < 2) :
    setPatternBody [byte (e.val + 1), initial, burst, period] t = .refused .badForm 4 := by
  simp only [setPatternBody, entryOf_byte, if_neg some, if_pos low]

end

/-! ### The claim -/

/-- Settles O55: the channel's run ends as `cutRunOn` ends it, and then the channel alone is written. -/
theorem modesAndPatternsAreSet : Obligations.ModesAndPatternsAreSet := by
  unfold Obligations.ModesAndPatternsAreSet
  refine ⟨fun m a b ch mode p s hears short => ?_, fun m a initial burst period e p s hears short => ?_⟩
  · intro t frame x holds ends
    have two : frame.length ≤ 64 := (by decide : 2 ≤ 64)
    refine ⟨fun same => ?_, fun other => ⟨t.changeMode ch mode, ?_, ?_⟩, fun high => ?_, fun low high => ?_, fun length => ?_⟩
    · exact request_accepted hears two ((setChannelModeBody_pair ch mode t).trans (if_pos same))
    · exact request_accepted hears two ((setChannelModeBody_pair ch mode t).trans (if_neg other))
    · have changed : EndsRuns ends t (t.changeMode ch mode) := changeMode_ends.congr fun st => and_congr_right' and_assoc
      exact ⟨changed.settings, changed.hangers, changed.queue, changed.carriages, changeMode_get, changed.cut, changed.kept, changed.marks⟩
    · exact request_refused hears (by simp) (setChannelModeBody_channel _ high)
    · exact request_refused hears (by simp) (setChannelModeBody_mode _ low high)
    · exact request_refused hears short (setChannelModeBody_form _ length)
  · refine ⟨fun some high => ?_, fun fixed => ?_, ?_, fun some low => ?_, fun length => ?_⟩
    · exact request_accepted hears (by simp) (setPatternBody_entry e some high)
    · exact request_refused hears (by simp) (setPatternBody_fixed fixed)
    · exact request_refused hears (by simp) (setPatternBody_burst e)
    · exact request_refused hears (by simp) (setPatternBody_period e some low)
    · exact request_refused hears short (setPatternBody_form length)

end Sys2Proof.Machine.PumpRuns
end

section
/-! SET ACTIVITY and SET BATH PARAMETERS (R87 to R90, R136, R141). -/

namespace Sys2Proof.Machine.PumpRuns

open Sys2Proof.Machine.RecipeBanks Sys2Proof.Machine.HangerTable

/-! ### SET ACTIVITY -/

section

variable {a b c : Byte} {t : State}

theorem stationOf_byte (st : StationNo) : stationOf (byte st.val) = some st := finOf_byte (by decide) st

theorem clampActivity_eq (n : Nat) : clampActivity n = if n < 512 then 512 else if 1024 < n then 1024 else n := by
  unfold clampActivity
  split
  · omega
  · split <;> omega

theorem bit_ne (m n : Nat) : bit (decide (m ≠ n)) = if m = n then 0 else 1 := by
  by_cases same : m = n <;> simp [bit, same]

theorem setActivityBody_develop {st : StationNo} (develop : t.stations[st].cls = .develop) :
    let value := b.toNat * 256 + c.toNat
    let stored := if value < 512 then 512 else if 1024 < value then 1024 else value
    setActivityBody [byte st.val, b, c] t = .accepted { t with
        stations := t.stations.set st.val { t.stations[st] with activity := stored, deficit := 0 }
        marks := t.marks.set 9 (t.marks[9].filter fun n => n != st.val) }
      (if stored = value then 0 else 1) [byte (stored / 256), byte stored] := by
  intro value stored
  have clamped : clampActivity (num16 b c) = stored := clampActivity_eq value
  have develops : ¬t.stations[st].cls ≠ .develop := not_not.2 develop
  simp only [setActivityBody, stationOf_byte, if_neg develops, clamped, bit_ne]
  rfl

theorem setActivityBody_class {st : StationNo} (other : t.stations[st].cls ≠ .develop) :
    setActivityBody [byte st.val, b, c] t = .refused .wrongClass t.stations[st].cls.code := by
  simp only [setActivityBody, stationOf_byte, if_pos other]

theorem setActivityBody_station (high : 16 ≤ a.toNat) : setActivityBody [a, b, c] t = .refused .badForm 1 := by
  simp only [setActivityBody, stationOf, finOf_eq_none.2 high]

theorem setActivityBody_form {p : List Byte} (h : p.length ≠ 3) : setActivityBody p t = .refused .badForm 0 := by
  unfold setActivityBody
  split
  · simp at h
  · rfl

end

/-! ### The forms of SET BATH PARAMETERS -/

section

variable {a e1 e0 q1 q0 pc rl r1 r0 : Byte} {st : StationNo} {pump : Option PumpNo} {t : State}

theorem pumpOf_pumpByte (pump : Option PumpNo) : pumpOf (pumpByte pump) = some pump := by
  cases pump with
  | none => rfl
  | some p =>
    revert p
    decide

theorem pumpOf_eq_none (some : pc ≠ 0xFF) (apart : pc.toNat < 16 ∨ 19 < pc.toNat) : pumpOf pc = none := by
  unfold pumpOf
  rw [if_neg some]
  split
  · next high =>
    rw [finOf_eq_none.2 (by bv_omega)]
    rfl
  · rfl

theorem setBathBody_form {p : List Byte} (h : p.length ≠ 9) : setBathParametersBody p t = .refused .badForm 0 := by
  unfold setBathParametersBody
  split
  · simp at h
  · rfl

theorem setBathBody_station (high : 16 ≤ a.toNat) :
    setBathParametersBody [a, e1, e0, q1, q0, pc, rl, r1, r0] t = .refused .badForm 1 := by
  simp only [setBathParametersBody, stationOf, finOf_eq_none.2 high]

theorem setBathBody_exhaust (high : 4095 < num16 e1 e0) :
    setBathParametersBody [byte st.val, e1, e0, q1, q0, pc, rl, r1, r0] t = .refused .badForm 2 := by
  simp only [setBathParametersBody, stationOf_byte, if_pos high]

variable (exhaust : ¬4095 < num16 e1 e0)
include exhaust

theorem setBathBody_quantum (bad : num16 q1 q0 = 0 ∨ 4095 < num16 q1 q0) :
    setBathParametersBody [byte st.val, e1, e0, q1, q0, pc, rl, r1, r0] t = .refused .badForm 3 := by
  simp only [setBathParametersBody, stationOf_byte, if_neg exhaust, if_pos bad]

variable (quantum : ¬(num16 q1 q0 = 0 ∨ 4095 < num16 q1 q0))
include quantum

theorem setBathBody_noPump (bad : pumpOf pc = none) :
    setBathParametersBody [byte st.val, e1, e0, q1, q0, pc, rl, r1, r0] t = .refused .badForm 4 := by
  simp only [setBathParametersBody, stationOf_byte, if_neg exhaust, if_neg quantum, bad]

variable (named : pumpOf pc = some pump)
include named

theorem setBathBody_runLength : setBathParametersBody [byte st.val, e1, e0, q1, q0, pc, 0, r1, r0] t = .refused .badForm 5 := by
  simp only [setBathParametersBody, stationOf_byte, if_neg exhaust, if_neg quantum, named, if_pos]

variable (runs : rl ≠ 0)
include runs

theorem setBathBody_restore (high : 512 < num16 r1 r0) :
    setBathParametersBody [byte st.val, e1, e0, q1, q0, pc, rl, r1, r0] t = .refused .badForm 6 := by
  simp only [setBathParametersBody, stationOf_byte, if_neg exhaust, if_neg quantum, named, if_neg runs, if_pos high]

variable (restore : ¬512 < num16 r1 r0)
include restore

theorem setBathBody_class (other : t.stations[st].cls ≠ .develop) :
    setBathParametersBody [byte st.val, e1, e0, q1, q0, pc, rl, r1, r0] t = .refused .wrongClass t.stations[st].cls.code := by
  simp only [setBathParametersBody, stationOf_byte, if_neg exhaust, if_neg quantum, named, if_neg runs, if_neg restore, if_pos other]

variable (develop : ¬t.stations[st].cls ≠ .develop)
include develop

theorem setBathBody_held {o : StationNo} (owner : t.otherOwner st pump = some o) :
    setBathParametersBody [byte st.val, e1, e0, q1, q0, pc, rl, r1, r0] t = .refused .channelInUse o.val := by
  simp only [setBathParametersBody, stationOf_byte, if_neg exhaust, if_neg quantum, named, if_neg runs, if_neg restore, if_neg develop,
    owner]

theorem setBathBody_accepted (free : t.otherOwner st pump = none) :
    setBathParametersBody [byte st.val, e1, e0, q1, q0, pc, rl, r1, r0] t =
      .accepted (t.writeBath st (num16 e1 e0) (num16 q1 q0) pump rl.toNat (num16 r1 r0)) 0
        (be16 (num16 e1 e0) ++ be16 (num16 q1 q0) ++ [pumpByte pump, rl] ++ be16 (num16 r1 r0)) := by
  simp only [setBathParametersBody, stationOf_byte, if_neg exhaust, if_neg quantum, named, if_neg runs, if_neg restore, if_neg develop,
    free]

end

/-- Two bytes are read back from the number they carry (R183). -/
theorem be16_num16 (a b : Byte) : be16 (num16 a b) = [a, b] := by
  have small : b.toNat < 256 := b.isLt
  have high : byte (num16 a b / 256) = a := by
    rw [show num16 a b / 256 = a.toNat by unfold num16; omega, byte_toNat]
  have low : byte (num16 a b) = b := BitVec.eq_of_toNat_eq (by
    simp only [byte, num16, BitVec.toNat_ofNat]
    omega)
  rw [be16, high, low]

/-! ### The holder of a channel -/

section

variable {t : State} {st : StationNo} {pump : Option PumpNo}

/-- A station other than `st` holds the pump `pump`, where that is one (R89). -/
def HeldBy (t : State) (st : StationNo) (pump : Option PumpNo) (i : StationNo) : Prop := i ≠ st ∧ pump ≠ none ∧ t.stations[i].pump = pump

theorem otherOwner_of_first {o : StationNo} (held : HeldBy t st pump o) (first : ∀ i, HeldBy t st pump i → o ≤ i) :
    t.otherOwner st pump = some o := by
  obtain ⟨apart, some, own⟩ := held
  cases pump with
  | none => exact absurd rfl some
  | some p =>
    unfold State.otherOwner
    refine find?_of_least (List.pairwise_lt_finRange 16) (List.mem_finRange o) ?_ fun i before => ?_
    · exact decide_eq_true ⟨apart, own⟩
    · exact decide_eq_false fun held => absurd (first i ⟨held.1, some, held.2⟩) (not_le.2 before)

theorem otherOwner_of_unheld (unheld : ∀ i, ¬HeldBy t st pump i) : t.otherOwner st pump = none := by
  cases pump with
  | none => rfl
  | some p => exact List.find?_eq_none.2 fun i _ own => unheld i ⟨(of_decide_eq_true own).1, by simp, (of_decide_eq_true own).2⟩

end

/-! ### The bath written -/

section

variable (t : State) (st : StationNo) (pump : Option PumpNo)

/-- The run on a pump channel that changes ends short (R90). -/
def pumpChanged : State := if t.stations[st].pump = pump then t else t.cutRunShort st

theorem pumpChanged_ends :
    EndsRuns (fun i => i = st ∧ t.stations[st].pump ≠ pump ∧ t.stations[st].runRemaining ≠ none) t (pumpChanged t st pump) := by
  unfold pumpChanged
  split
  · next same => exact (EndsRuns.refl t).congr fun i => ⟨False.elim, fun own => own.2.1 same⟩
  · next other => exact (cutRunShort_ends t st).congr fun i => and_congr_right' (and_iff_right other).symm

theorem pumpChanged_silences :
    SilencesAuto (fun ch => (t.stations[st].pump ≠ pump ∧ t.stations[st].runRemaining ≠ none) ∧
      t.stations[st].pump.map pumpChannel = some ch) t (pumpChanged t st pump) := by
  unfold pumpChanged
  split
  · next same => exact (SilencesAuto.of_same rfl).congr fun i => ⟨False.elim, fun own => own.1.1 same⟩
  · next other => exact (cutRunShort_silences t st).congr fun i => and_congr_left' (and_iff_right other).symm

variable (e q rl r : Nat)

theorem writeBath_eq : t.writeBath st e q pump rl r =
    (pumpChanged t st pump).setStation st ((pumpChanged t st pump).stations[st].withBath e q pump rl r) := rfl

theorem writeBath_other {i : StationNo} (other : i ≠ st) : (t.writeBath st e q pump rl r).stations[i] = t.stations[i] := by
  rw [writeBath_eq, State.setStation_get, if_neg other, (pumpChanged_ends t st pump).kept i fun own => other own.1]

theorem writeBath_station :
    let x := t.stations[st]
    let ends := x.pump ≠ pump ∧ x.runRemaining ≠ none
    (t.writeBath st e q pump rl r).stations[st] = { x with
      exhaust := e, quantum := q, pump := pump, runLength := rl, restore := r
      runRemaining := if x.pump = pump then x.runRemaining else none
      pendingRuns := if ends ∧ x.pendingRuns < 3 then x.pendingRuns + 1 else x.pendingRuns } := by
  intro x ends
  have changed := pumpChanged_ends t st pump
  rw [writeBath_eq, State.setStation_get, if_pos rfl]
  by_cases named : ends
  · rw [changed.cut st ⟨rfl, named⟩, if_neg named.1]
    simp only [named, true_and]
    rfl
  · have run : (if x.pump = pump then x.runRemaining else none) = x.runRemaining := by
      by_cases same : x.pump = pump
      · exact if_pos same
      · rw [if_neg same]
        exact (not_not.1 fun runs => named ⟨same, fun idle => runs idle.symm⟩)
    rw [changed.kept st fun own => named own.2, run, if_neg fun own => named own.1]
    rfl

theorem writeBath_channel (ch : ChannelNo) :
    let x := t.stations[st]
    let ends := x.pump ≠ pump ∧ x.runRemaining ≠ none
    (t.writeBath st e q pump rl r).channels[ch] =
      if ends ∧ x.pump.map pumpChannel = some ch ∧ t.channels[ch].mode = .auto then { t.channels[ch] with staged := false, latch := false }
      else t.channels[ch] := by
  intro x ends
  have changed := pumpChanged_silences t st pump
  split
  · next named => exact changed.silenced ch named.2.2 ⟨named.1, named.2.1⟩
  · next other => exact changed.kept ch fun named => other ⟨named.2.1, named.2.2, named.1⟩

theorem writeBath_hasMark (k : Kind) (n : Nat) : (t.writeBath st e q pump rl r).hasMark k n = true ↔ t.hasMark k n = true ∨
    (k = .replenishBacklog ∧ n = st.val ∧ (t.stations[st].pump ≠ pump ∧ t.stations[st].runRemaining ≠ none) ∧
      3 ≤ t.stations[st].pendingRuns) := by
  refine ((pumpChanged_ends t st pump).marks k n).trans (or_congr_right (and_congr_right' ⟨?_, ?_⟩))
  · rintro ⟨_, subject, ⟨rfl, ends⟩, full⟩
    exact ⟨subject, ends, full⟩
  · rintro ⟨subject, ends, full⟩
    exact ⟨st, subject, ⟨rfl, ends⟩, full⟩

end

/-! ### The claim -/

/-- Settles O44: each form in its order; a bath is written after the run on a pump channel that changes has ended short. -/
theorem bathsAreSet : Obligations.BathsAreSet := by
  unfold Obligations.BathsAreSet
  refine ⟨fun m a b c st p s hears short => ?_, fun m e1 e0 q1 q0 pc rl r1 r0 st pump p s hears short => ?_⟩
  · refine ⟨fun develop => ?_, fun other => ?_, fun high => ?_, fun length => ?_⟩
    · exact request_accepted hears (by simp) (setActivityBody_develop develop)
    · exact request_refused hears (by simp) (setActivityBody_class other)
    · exact request_refused hears (by simp) (setActivityBody_station high)
    · exact request_refused hears short (setActivityBody_form length)
  · intro t x e q r frame formed held ends
    have nine : frame.length ≤ 64 := (by decide : 9 ≤ 64)
    have refused := fun {reason d} (h : setBathParametersBody frame t = .refused reason d) =>
      request_refused (code := 0x14) (s := s) hears nine h
    refine ⟨fun length => request_refused hears short (setBathBody_form length), fun high => refused (setBathBody_exhaust high),
      fun low bad => refused (setBathBody_quantum (not_lt.2 low) bad),
      fun a high => request_refused hears (by simp) (setBathBody_station high), fun low least most => ?_, ?_⟩
    · have exhaust := not_lt.2 low
      have quantum : ¬(q = 0 ∨ 4095 < q) := by omega
      refine ⟨fun some apart => refused (setBathBody_noPump exhaust quantum (pumpOf_eq_none some apart)), fun named zero => ?_,
        fun named runs high => ?_⟩
      · subst zero
        exact refused (setBathBody_runLength exhaust quantum (named ▸ pumpOf_pumpByte pump))
      · exact refused (setBathBody_restore exhaust quantum (named ▸ pumpOf_pumpByte pump) runs high)
    · have parts : formed → ¬4095 < e ∧ ¬(q = 0 ∨ 4095 < q) ∧ pumpOf pc = some pump ∧ rl ≠ 0 ∧ ¬512 < r := by
        rintro ⟨low, least, most, named, runs, restore⟩
        exact ⟨not_lt.2 low, by omega, named ▸ pumpOf_pumpByte pump, runs, not_lt.2 restore⟩
      refine ⟨fun form other => ?_, fun form develop o first before => ?_, fun form develop free => ⟨t.writeBath st e q pump rl.toNat r, ?_, ?_⟩⟩ <;>
        obtain ⟨exhaust, quantum, named, runs, restore⟩ := parts form
      · exact refused (setBathBody_class exhaust quantum named runs restore other)
      · exact refused (setBathBody_held exhaust quantum named runs restore (not_not.2 develop) (otherOwner_of_first first before))
      · have accepted := setBathBody_accepted exhaust quantum named runs restore (not_not.2 develop) (otherOwner_of_unheld free)
        rw [be16_num16, be16_num16, be16_num16, form.2.2.2.1] at accepted
        exact request_accepted hears nine accepted
      · have changed := pumpChanged_ends t st pump
        have written := setStation_still (pumpChanged t st pump) st ((pumpChanged t st pump).stations[st].withBath e q pump rl.toNat r)
        have still := changed.toStill.trans written
        exact ⟨still.settings, still.hangers, still.queue, still.carriages, changed.sent, fun i => writeBath_other t st pump e q rl.toNat r,
          writeBath_channel t st pump e q rl.toNat r, writeBath_hasMark t st pump e q rl.toNat r, writeBath_station t st pump e q rl.toNat r⟩

end Sys2Proof.Machine.PumpRuns
end

section
/-! ENABLE OUTPUTS and SET MANUAL OUTPUTS (R87, R136, R143, R144). -/

namespace Sys2Proof.Machine.PumpRuns

open Sys2Proof.Machine.RecipeBanks Sys2Proof.Machine.HangerTable

/-! ### One channel enabled -/

/-- Giving the enable of a channel the value `v` ends the run of a station: it clears the enable of a channel in AUTO, which the station is the
lowest to hold (R87, R143). -/
def Clears (v : Bool) (s : State) (ch : ChannelNo) (st : StationNo) : Prop :=
  (v = false ∧ s.channels[ch].mode = .auto ∧ s.channels[ch].enable = true) ∧ HoldsFirst s ch st ∧ s.stations[st].runRemaining ≠ none

/-- What a channel becomes whose enable is given the value `v` (R87, R136, R143). -/
structure EnabledAs (v : Bool) (s : State) (ch : ChannelNo) (y : Channel) : Prop where
  mode : y.mode = s.channels[ch].mode
  enable : y.enable = v
  latch : y.latch = (s.channels[ch].latch && v)
  off : ∀ st, Clears v s ch st → y.staged = false
  kept : (∀ st, ¬Clears v s ch st) → y.staged = s.channels[ch].staged

section

variable {v : Bool} {s : State} {ch i : ChannelNo} {st : StationNo}

theorem enableChannel_true : s.enableChannel true ch = s.setChannel ch { s.channels[ch] with enable := true } := rfl

theorem enableChannel_false : s.enableChannel false ch =
    let t := if s.channels[ch].mode = .auto ∧ s.channels[ch].enable then s.cutRunOn ch else s
    t.setChannel ch { t.channels[ch] with enable := false, latch := false } := rfl

theorem enableChannel_ends : EndsRuns (Clears v s ch) s (s.enableChannel v ch) := by
  cases v with
  | true => exact (setChannel_ends s ch _).congr fun st => ⟨False.elim, fun own => by cases own.1.1⟩
  | false => exact (cutRunOn_if_written s ch _ _).congr fun st => and_congr_left' (and_iff_right rfl).symm

theorem enableChannel_other (other : i ≠ ch) : (s.enableChannel v ch).channels[i] = s.channels[i] := by
  cases v with
  | true => rw [enableChannel_true, State.setChannel_get, if_neg other]
  | false => exact (cutRunOn_if_get s ch _ _ i).trans (if_neg other)

theorem enableChannel_own : EnabledAs v s ch (s.enableChannel v ch).channels[ch] := by
  cases v with
  | true =>
    rw [enableChannel_true, State.setChannel_get, if_pos rfl]
    exact ⟨rfl, rfl, (Bool.and_true _).symm, fun st own => (nomatch own.1.1), fun _ => rfl⟩
  | false =>
    have silences := cutRunOn_if_silences s ch (s.channels[ch].mode = .auto ∧ s.channels[ch].enable = true)
    rw [enableChannel_false]
    dsimp only
    rw [State.setChannel_get, if_pos rfl]
    refine ⟨silences.mode ch, rfl, (Bool.and_false _).symm, fun st own => ?_, fun none => ?_⟩
    · obtain ⟨⟨_, carries⟩, first, runs⟩ := own
      exact congrArg Channel.staged (silences.silenced ch carries.1 ⟨rfl, carries, st, first, runs⟩)
    · have same := silences.kept ch fun ⟨_, _, carries, st, first, runs⟩ => none st ⟨⟨rfl, carries⟩, first, runs⟩
      exact (congrArg Channel.staged same :)

/-- The run that another channel's enable ends is as it was: no station holds two channels. -/
theorem clears_after {w : Bool} (other : i ≠ ch) : Clears w (s.enableChannel v ch) i st ↔ Clears w s i st := by
  have ends := enableChannel_ends (v := v) (s := s) (ch := ch)
  unfold Clears
  rw [enableChannel_other other, holdsFirst_congr ends.pump]
  refine and_congr_right' (and_congr_right fun first => ?_)
  rw [ends.kept st fun own => other (first.1.channel own.2.1.1)]

theorem EnabledAs.before {w : Bool} {y : Channel} (m : EnabledAs w (s.enableChannel v ch) i y) (other : i ≠ ch) : EnabledAs w s i y := by
  have found := enableChannel_other (v := v) (s := s) other
  have clears := fun st => clears_after (v := v) (s := s) (st := st) (w := w) other
  obtain ⟨mode, enable, latch, off, kept⟩ := m
  rw [found] at mode latch kept
  exact ⟨mode, enable, latch, fun st own => off st ((clears st).2 own), fun none => kept fun st own => none st ((clears st).1 own)⟩

end

/-! ### The channels of a set enabled -/

/-- The enables of the channels of a list are given the values `f`. -/
def enableEach (f : ChannelNo → Bool) (l : List ChannelNo) (s : State) : State := l.foldl (fun s ch => s.enableChannel (f ch) ch) s

section

variable {f : ChannelNo → Bool}

theorem enableEach_cons (i : ChannelNo) (l : List ChannelNo) (s : State) :
    enableEach f (i :: l) s = enableEach f l (s.enableChannel (f i) i) := rfl

theorem enableEach_ends (l : List ChannelNo) (once : l.Nodup) (s : State) :
    EndsRuns (fun st => ∃ ch ∈ l, Clears (f ch) s ch st) s (enableEach f l s) := by
  induction l generalizing s with
  | nil => exact (EndsRuns.refl s).congr fun st => by simp
  | cons i l ih =>
    obtain ⟨out, rest⟩ := List.nodup_cons.1 once
    have apart : ∀ ch, ch ∈ l → ch ≠ i := fun ch mem same => out (same ▸ mem)
    have later : ∀ ch st, ch ∈ l → (Clears (f ch) (s.enableChannel (f i) i) ch st ↔ Clears (f ch) s ch st) := fun ch st mem =>
      clears_after (apart ch mem)
    rw [enableEach_cons]
    refine ((enableChannel_ends (v := f i) (s := s) (ch := i)).trans (ih rest _) ?_).congr fun st => ?_
    · rintro st own ⟨ch, mem, again⟩
      exact apart ch mem (((later ch st mem).1 again).2.1.1.channel own.2.1.1)
    · rw [List.exists_mem_cons_iff]
      exact or_congr_right (exists_congr fun ch => and_congr_right fun mem => later ch st mem)

theorem enableEach_other (l : List ChannelNo) (s : State) {ch : ChannelNo} (out : ch ∉ l) :
    (enableEach f l s).channels[ch] = s.channels[ch] := by
  induction l generalizing s with
  | nil => rfl
  | cons i l ih =>
    obtain ⟨other, rest⟩ := not_or.1 (List.mem_cons.not.1 out)
    rw [enableEach_cons, ih _ rest, enableChannel_other other]

theorem enableEach_own (l : List ChannelNo) (once : l.Nodup) (s : State) {ch : ChannelNo} (mem : ch ∈ l) :
    EnabledAs (f ch) s ch (enableEach f l s).channels[ch] := by
  induction l generalizing s with
  | nil => cases mem
  | cons i l ih =>
    obtain ⟨out, rest⟩ := List.nodup_cons.1 once
    rw [enableEach_cons]
    rcases List.mem_cons.1 mem with rfl | later
    · rw [enableEach_other l _ out]
      exact enableChannel_own
    · exact (ih rest _ later).before fun same => out (same ▸ later)

end

/-! ### Channels staged by hand -/

/-- The channels of a list, all in MANUAL, are staged with the values `f` (R144). -/
def stageEach (f : ChannelNo → Bool) (l : List ChannelNo) (s : State) : State :=
  l.foldl (fun s ch => s.setChannel ch (s.channels[ch].stagedByHand (f ch))) s

section

variable {f : ChannelNo → Bool}

theorem stageEach_cons (i : ChannelNo) (l : List ChannelNo) (s : State) :
    stageEach f (i :: l) s = stageEach f l (s.setChannel i (s.channels[i].stagedByHand (f i))) := rfl

theorem stageEach_rest (l : List ChannelNo) (s : State) : { stageEach f l s with channels := s.channels } = s := by
  induction l generalizing s with
  | nil => rfl
  | cons i l ih =>
    rw [stageEach_cons]
    exact congrArg (fun u : State => { u with channels := s.channels }) (ih (s.setChannel i (s.channels[i].stagedByHand (f i))))

theorem stageEach_get (l : List ChannelNo) (once : l.Nodup) (s : State) (ch : ChannelNo) :
    (stageEach f l s).channels[ch] = if ch ∈ l then s.channels[ch].stagedByHand (f ch) else s.channels[ch] := by
  induction l generalizing s with
  | nil => rfl
  | cons i l ih =>
    obtain ⟨out, rest⟩ := List.nodup_cons.1 once
    rw [stageEach_cons, ih rest, State.setChannel_get]
    by_cases own : ch = i
    · subst own
      rw [if_neg out, if_pos rfl, if_pos List.mem_cons_self]
    · simp only [own, if_false, List.mem_cons, false_or]

end

/-! ### The rules -/

section

variable {n0 n1 n2 v0 v1 v2 : Byte} {t : State}

theorem mem_namedChannels {ch : ChannelNo} : ch ∈ namedChannels n0 n1 n2 ↔ inChannelSet n0 n1 n2 ch = true :=
  List.mem_filter.trans (and_iff_right (List.mem_finRange ch))

theorem namedChannels_nodup : (namedChannels n0 n1 n2).Nodup := (List.nodup_finRange 20).filter _

/-- Of the channels named that pass a test, the lowest. -/
theorem find?_named {f : ChannelNo → Bool} {P : ChannelNo → Prop} [DecidablePred P] {ch : ChannelNo} (named : f ch = true) (here : P ch)
    (before : ∀ i : ChannelNo, i < ch → f i = true → ¬P i) : (allChannels.filter f).find? (fun ch => P ch) = some ch := by
  rw [List.find?_filter]
  refine find?_of_least (List.pairwise_lt_finRange 20) (List.mem_finRange ch) (decide_eq_true_iff.2 ?_) fun i lower => ?_
  · exact ⟨named, decide_eq_true here⟩
  · rw [decide_eq_false_iff_not, decide_eq_true_iff]
    exact fun ⟨own, passes⟩ => before i lower own passes

theorem enableOutputsBody_stopped (stopped : t.stopActive = true) :
    enableOutputsBody [n0, n1, n2, v0, v1, v2] t = .refused .stopInputActive 0 := by
  simp only [enableOutputsBody, stopped, if_true]

theorem enableOutputsBody_taken (goes : t.stopActive = false) :
    let u := enableEach (inChannelSet v0 v1 v2) (namedChannels n0 n1 n2) t
    enableOutputsBody [n0, n1, n2, v0, v1, v2] t = .accepted u 0 (channelSetBytes fun ch => u.channels[ch].enable) := by
  simp only [enableOutputsBody, goes, Bool.false_eq_true, if_false]
  rfl

theorem enableOutputsBody_form {p : List Byte} (h : p.length ≠ 6) : enableOutputsBody p t = .refused .badForm 0 := by
  unfold enableOutputsBody
  split
  · simp at h
  · rfl

/-- What SET MANUAL OUTPUTS answers where `found` is the lowest channel named that is not in MANUAL (R144). -/
def manualReply (found : Option ChannelNo) (u : State) : Reply :=
  found.elim (.accepted u 0 (channelSetBytes fun ch => u.channels[ch].staged)) fun ch => .refused .wrongState ch.val

theorem setManualBody_six : setManualOutputsBody [n0, n1, n2, v0, v1, v2] t =
    manualReply ((namedChannels n0 n1 n2).find? fun ch => t.channels[ch].mode ≠ .manual)
      (stageEach (inChannelSet v0 v1 v2) (namedChannels n0 n1 n2) t) := by
  rw [setManualOutputsBody.eq_def]
  generalize namedChannels = channels
  dsimp only
  split
  · next found => rw [found]; rfl
  · next none => rw [none]; rfl

theorem setManualBody_other {ch : ChannelNo} (named : inChannelSet n0 n1 n2 ch = true) (other : t.channels[ch].mode ≠ .manual)
    (before : ∀ i : ChannelNo, i < ch → inChannelSet n0 n1 n2 i = true → t.channels[i].mode = .manual) :
    setManualOutputsBody [n0, n1, n2, v0, v1, v2] t = .refused .wrongState ch.val := by
  have first : (namedChannels n0 n1 n2).find? (fun ch => t.channels[ch].mode ≠ .manual) = some ch :=
    find?_named named other fun i lower own => not_not.2 (before i lower own)
  rw [setManualBody_six, first, manualReply, Option.elim_some]

theorem setManualBody_taken (manual : ∀ ch : ChannelNo, inChannelSet n0 n1 n2 ch = true → t.channels[ch].mode = .manual) :
    let u := stageEach (inChannelSet v0 v1 v2) (namedChannels n0 n1 n2) t
    setManualOutputsBody [n0, n1, n2, v0, v1, v2] t = .accepted u 0 (channelSetBytes fun ch => u.channels[ch].staged) := by
  have none : (namedChannels n0 n1 n2).find? (fun ch => t.channels[ch].mode ≠ .manual) = none :=
    List.find?_eq_none.2 fun ch mem other => of_decide_eq_true other (manual ch (mem_namedChannels.1 mem))
  rw [setManualBody_six, none]
  rfl

theorem setManualBody_form {p : List Byte} (h : p.length ≠ 6) : setManualOutputsBody p t = .refused .badForm 0 := by
  unfold setManualOutputsBody
  split
  · simp at h
  · rfl

end

/-! ### The claim -/

/-- Settles O56: each channel named is written once, and the run that its enable ends is that of a station no other channel touches. -/
theorem outputsAreEnabledAndStaged : Obligations.OutputsAreEnabledAndStaged := by
  unfold Obligations.OutputsAreEnabledAndStaged
  intro m n0 n1 n2 v0 v1 v2 p s hears short t frame named value clears holds ends
  have six : frame.length ≤ 64 := (by decide : 6 ≤ 64)
  refine ⟨fun stopped => ?_, fun goes => ⟨enableEach value (namedChannels n0 n1 n2) t, ?_, ?_⟩, fun ch own other before => ?_,
    fun manual => ⟨stageEach value (namedChannels n0 n1 n2) t, ?_, ?_, fun ch => ?_⟩, fun length => ⟨?_, ?_⟩⟩
  · exact request_refused hears six (enableOutputsBody_stopped stopped)
  · exact request_accepted hears six (enableOutputsBody_taken goes)
  · have ended := enableEach_ends (f := value) (namedChannels n0 n1 n2) namedChannels_nodup t
    have ends_iff : ∀ ch st, ends ch st ↔ named ch = true ∧ Clears (value ch) t ch st := fun ch st => by
      unfold ends clears Clears HoldsFirst
      simp only [and_assoc]
      rfl
    have every : ∀ st, (∃ ch ∈ namedChannels n0 n1 n2, Clears (value ch) t ch st) ↔ ∃ ch, ends ch st := fun st =>
      exists_congr fun ch => by rw [mem_namedChannels, ends_iff]; rfl
    have ended := ended.congr every
    refine ⟨ended.settings, ended.hangers, ended.queue, ended.carriages, fun st none => ended.kept st fun ⟨ch, own⟩ => none ch own, ?_, ?_⟩
    · refine fun k n => (ended.marks k n).trans (or_congr_right (and_congr_right' ⟨?_, ?_⟩))
      · rintro ⟨st, subject, ⟨ch, own⟩, full⟩
        exact ⟨ch, st, subject, own, full⟩
      · rintro ⟨ch, st, subject, own, full⟩
        exact ⟨st, subject, ⟨ch, own⟩, full⟩
    · intro ch
      by_cases own : named ch = true
      · have written := enableEach_own (f := value) (namedChannels n0 n1 n2) namedChannels_nodup t (mem_namedChannels.2 own)
        refine ⟨written.mode, written.enable.trans (if_pos own).symm, written.latch.trans (by simp [own]), fun st ended' => ?_, fun none => ?_⟩
        · exact ⟨written.off st ((ends_iff ch st).1 ended').2, ended.cut st ⟨ch, ended'⟩⟩
        · exact written.kept fun st cleared => none st ((ends_iff ch st).2 ⟨own, cleared⟩)
      · have same := enableEach_other (f := value) (namedChannels n0 n1 n2) t fun mem => own (mem_namedChannels.1 mem)
        rw [same]
        exact ⟨rfl, (if_neg own).symm, by simp [own], fun st ended' => absurd ((ends_iff ch st).1 ended').1 own, fun _ => rfl⟩
  · exact request_refused hears six (setManualBody_other own other before)
  · exact request_accepted hears six (setManualBody_taken manual)
  · exact stageEach_rest _ t
  · rw [stageEach_get _ namedChannels_nodup]
    exact if_congr mem_namedChannels rfl rfl
  · exact request_refused hears short (enableOutputsBody_form length)
  · exact request_refused hears short (setManualBody_form length)

end Sys2Proof.Machine.PumpRuns
end

section
/-! The pump runs at a beat (R84, R85), and what a beat's transfer leaves in each channel (R136, R137, R138, R140, R141). -/

namespace Sys2Proof.Machine.PumpRuns

open Sys2Proof.Machine.RecipeBanks Sys2Proof.Machine.HangerTable Sys2Proof.Machine.Development

/-! ### Runs start and count -/

/-- A station that starts its run: one replenishment less is pending, and the run has its full length to go (R84). -/
def begun (x : Station) : Station := { x with pendingRuns := x.pendingRuns - 1, runRemaining := some x.runLength }

section

variable {s : State} {st : StationNo}

theorem runStarts_iff (s : State) (st : StationNo) : s.runStarts st = true ↔ s.startsRun st := by
  unfold State.runStarts State.startsRun
  generalize s.stations[st] = x
  cases pump : x.pump <;>
    simp only [pump, Bool.and_eq_true, beq_iff_eq, Option.isNone_iff_eq_none, decide_eq_true_eq, Bool.not_eq_true', Option.some.injEq,
      exists_eq_left', and_assoc, Bool.false_eq_true, and_false, reduceCtorEq, false_and, exists_false]

theorem startedStation_starting (starts : s.startsRun st) : s.startedStation st = begun s.stations[st] :=
  if_pos ((runStarts_iff s st).2 starts)

theorem startedStation_idle (idle : ¬s.startsRun st) : s.startedStation st = s.stations[st] :=
  if_neg fun starts => idle ((runStarts_iff s st).1 starts)

/-- Each station of a list is rewritten once, as the other stations do not matter to it. -/
theorem rewriteStations_get (g : StationNo → State → Station)
    (apart : ∀ (u : State) (i st : StationNo) x, st ≠ i → g st (u.setStation i x) = g st u) (l : List StationNo) (once : l.Nodup) (s : State) :
    (l.foldl (fun u i => u.setStation i (g i u)) s).stations[st] = if st ∈ l then g st s else s.stations[st] := by
  induction l generalizing s with
  | nil => rfl
  | cons i l ih =>
    obtain ⟨out, rest⟩ := List.nodup_cons.1 once
    rw [List.foldl_cons, ih rest]
    by_cases same : st = i
    · subst same
      rw [if_neg out, if_pos List.mem_cons_self, State.setStation_get, if_pos rfl]
    · simp only [List.mem_cons, same, false_or]
      rw [apart s i st _ same, State.setStation_get, if_neg same]

theorem startRuns_get (s : State) (st : StationNo) : s.startRuns.stations[st] = s.startedStation st := by
  refine (rewriteStations_get (fun i u => u.startedStation i) (fun u i st x other => ?_) allStations (List.nodup_finRange 16) s).trans
    (if_pos (List.mem_finRange st))
  have kept : (u.setStation i x).stations[st] = u.stations[st] := by rw [State.setStation_get, if_neg other]
  simp only [State.startedStation, State.runStarts, kept]
  rfl

theorem countRuns_get (s : State) (st : StationNo) : s.countRuns.stations[st] = s.stations[st].countedDown :=
  (rewriteStations_get (fun i u => u.stations[i].countedDown) (fun u i st x other => by
    rw [State.setStation_get, if_neg other]) allStations (List.nodup_finRange 16) s).trans (if_pos (List.mem_finRange st))

/-! ### The runs of a beat -/

/-- The state of a beat in which the runs have started and none has counted (R84). -/
def runState (s : State) : State := s.found.counted.ageReadings.startRuns

/-- What a station is when its readings are aged and its run started, where it starts one. -/
def runStation (s : State) (st : StationNo) (x : Station) : Prop :=
  (s.found.startsRun st → x = begun (s.found.stations[st].aged s.params.sensorTimeout)) ∧
    (¬s.found.startsRun st → x = s.found.stations[st].aged s.params.sensorTimeout)

theorem stopActive_of_settings {u : State} {x : Settings} (settings : u.settings = x) : u.stopActive = x.stopActive :=
  congrArg Settings.stopActive settings

theorem counted_stations (s : State) : s.counted.stations = s.stations := rfl

theorem counted_channels (s : State) : s.counted.channels = s.channels := rfl

theorem counted_stopActive (s : State) : s.counted.stopActive = s.stopActive := rfl

theorem agedState_get (s : State) (st : StationNo) :
    s.found.counted.ageReadings.stations[st] = s.found.stations[st].aged s.params.sensorTimeout := by
  have params : s.found.counted.params = s.params := params_of_settings (found_settings s)
  rw [ageReadings_get, params, counted_stations]

theorem ageStation_channels (s : State) (st : StationNo) : (s.ageStation st).channels = s.channels := by
  unfold State.ageStation
  dsimp only
  split <;> rfl

theorem ageReadings_channels (s : State) : s.ageReadings.channels = s.channels := by
  unfold State.ageReadings
  generalize allStations = l
  induction l generalizing s with
  | nil => rfl
  | cons i l ih => exact (ih (s.ageStation i)).trans (ageStation_channels s i)

/-- The ageing of the readings does not touch what a run's start rests on. -/
theorem startsRun_aged (s : State) (st : StationNo) : s.found.counted.ageReadings.startsRun st ↔ s.found.startsRun st := by
  have stop : s.found.counted.ageReadings.stopActive = s.found.counted.stopActive :=
    stopActive_of_settings (Still.fold State.ageStation ageStation_still allStations s.found.counted).settings
  rw [State.startsRun, agedState_get, ageReadings_channels, stop, counted_channels, counted_stopActive]
  exact Iff.rfl

theorem runState_get (s : State) (st : StationNo) : runStation s st (runState s).stations[st] := by
  have written : (runState s).stations[st] = s.found.counted.ageReadings.startedStation st := startRuns_get _ st
  rw [written]
  constructor <;> intro starts
  · rw [startedStation_starting ((startsRun_aged s st).2 starts), agedState_get]
  · rw [startedStation_idle fun x => starts ((startsRun_aged s st).1 x), agedState_get]

theorem workState_get (s : State) (st : StationNo) : (workState s).stations[st] = (runState s).stations[st].countedDown := countRuns_get _ st

theorem runState_pump (s : State) (st : StationNo) : (runState s).stations[st].pump = s.found.stations[st].pump := by
  obtain ⟨starting, idle⟩ := runState_get s st
  by_cases starts : s.found.startsRun st
  · rw [starting starts]
    rfl
  · rw [idle starts]
    rfl

/-- A run is in progress at the beat where one was found or starts (R85). -/
theorem runState_running (s : State) (st : StationNo) : (runState s).stations[st].runRemaining ≠ none ↔
    s.found.stations[st].runRemaining ≠ none ∨ s.found.startsRun st := by
  obtain ⟨starting, idle⟩ := runState_get s st
  by_cases starts : s.found.startsRun st
  · rw [starting starts]
    exact iff_of_true (fun none => by cases none) (.inr starts)
  · rw [idle starts]
    exact ⟨.inl, fun x => x.resolve_right starts⟩

theorem mem_runningPumps {p : PumpNo} : p ∈ s.runningPumps ↔
    ∃ st : StationNo, s.stations[st].pump = some p ∧ s.stations[st].runRemaining ≠ none := by
  simp only [State.runningPumps, List.mem_filterMap, Station.running, Option.isSome_iff_ne_none, Option.ite_none_right_eq_some]
  constructor
  · rintro ⟨st, _, runs, pump⟩
    exact ⟨st, pump, runs⟩
  · rintro ⟨st, pump, runs⟩
    exact ⟨st, List.mem_finRange st, runs, pump⟩

end

/-! ### What the work leaves of a channel -/

section

variable {R : Hanger → Hanger → Prop} {S : Station → Station → Prop} {s t : State} {ch : ChannelNo}

theorem moves_mode (m : LineMove R S s t) (ch : ChannelNo) : t.channels[ch].mode = s.channels[ch].mode := by
  rcases m.channel_of ch with e | e <;> rw [e]

theorem moves_enable (m : LineMove R S s t) (ch : ChannelNo) : t.channels[ch].enable = s.channels[ch].enable := by
  rcases m.channel_of ch with e | e <;> rw [e]

/-- A movement silences channels in AUTO alone (R140). -/
theorem moves_spared (m : LineMove R S s t) (other : s.channels[ch].mode ≠ .auto) : t.channels[ch] = s.channels[ch] := by
  induction m with
  | refl s => rfl
  | trans a b first second => exact (second fun auto => other ((moves_mode a ch).symm.trans auto)).trans (first other)
  | record s => rw [State.putHanger_channels]
  | station s => rfl
  | mark s => rfl
  | unmark s => rfl
  | silence s i => exact (silenceAuto_silences s i).kept ch fun x => other x.1
  | carriage s => rw [State.setCarriage_channels]
  | sent s => rfl
  | queue s => rfl

end

/-- The state in which a beat's work ends, before the transfer. -/
def workedState (s : State) : State := (workOf s).foldl State.takeTask (workState s)

theorem workedState_moves (s : State) : LineMove (fun _ _ => True) (fun _ _ => True) s.found.counted (workedState s) :=
  (((State.ageReadings_moves (fun _ _ => trivial) _).trans (State.startRuns_moves (fun _ _ => trivial) _)).trans
    (State.countRuns_moves (fun _ => trivial) _)).trans
    (LineMove.fold _ (State.takeTask_moves (fun _ _ _ => trivial) (fun _ _ _ => trivial) (fun _ _ _ => trivial) fun _ => trivial) _ _)

/-! ### What the transfer leaves of a channel -/

section

variable {s : State} {running : List PumpNo} {ch : ChannelNo}

theorem transferred_mode : (s.transferred running ch).mode = s.channels[ch].mode := rfl

theorem transferred_enable : (s.transferred running ch).enable = s.channels[ch].enable := rfl

theorem transferred_latch : (s.transferred running ch).latch = true ↔
    (s.transferred running ch).enable = true ∧ (s.transferred running ch).staged = true ∧ s.stopActive = false := by
  simp only [State.transferred, Bool.and_eq_true, Bool.not_eq_true', and_assoc]

theorem transferred_manual (manual : s.channels[ch].mode = .manual) : (s.transferred running ch).staged = s.channels[ch].staged := by
  simp only [State.transferred, manual]

theorem transferred_off (off : s.channels[ch].mode = .off) : (s.transferred running ch).staged = false := by
  simp only [State.transferred, off]

theorem transferred_auto (auto : s.channels[ch].mode = .auto) : (s.transferred running ch).staged = s.blockStaged running ch := by
  simp only [State.transferred, auto]

theorem blockStaged_pump (p : PumpNo) : s.blockStaged running (pumpChannel p) = running.contains p := by
  have pump : ¬(pumpChannel p).val < 16 := show ¬16 + p.val < 16 by omega
  have number : (⟨(pumpChannel p).val - 16, by omega⟩ : PumpNo) = p := Fin.ext (show 16 + p.val - 16 = p.val by omega)
  rw [State.blockStaged, dif_neg pump, number]

theorem blockStaged_valve (st : StationNo) : s.blockStaged running (valveOf st) = s.valveStaged st := dif_pos st.isLt

end

/-- What the transfer leaves after the work, with the steps that are to be taken after the beat (R136). -/
def closed (w : State) (running : List PumpNo) (n : Nat) (due : List FollowUp) : State := { w.transfer running with draws := n, due := due }

section

variable (w : State) (running : List PumpNo) (n : Nat) (due : List FollowUp)

theorem closed_channel (ch : ChannelNo) : (closed w running n due).channels[ch] = w.transferred running ch := w.transfer_get running ch

theorem closed_stations : (closed w running n due).stations = w.stations := by simp only [closed, State.transfer]

theorem closed_stopActive : (closed w running n due).stopActive = w.stopActive := by simp only [closed, State.transfer]

theorem closed_patterns : (closed w running n due).patterns = w.patterns := by simp only [closed, State.transfer]

theorem closed_due : (closed w running n due).due = due := by simp only [closed, State.transfer]

end

/-- What a beat leaves to be taken: the steps of the carriages, and the credits that are to be made after it (log 4, log 6). -/
def leftBy (s : State) : List FollowUp :=
  s.found.counted.carriageFollowUps ++ ((runState s).completing.filter fun st => !Config.creditInside s.draws st.val).map .credit

theorem beatEffect_closed (s : State) : s.beatEffect = closed (workedState s) (runState s).runningPumps (s.draws + 1) (leftBy s) := rfl

section

variable (s : State)

theorem beat_channel (ch : ChannelNo) : s.beatEffect.channels[ch] = (workedState s).transferred (runState s).runningPumps ch := by
  rw [beatEffect_closed, closed_channel]

theorem beat_stations : s.beatEffect.stations = (workedState s).stations := by rw [beatEffect_closed, closed_stations]

theorem beat_mode (ch : ChannelNo) : s.beatEffect.channels[ch].mode = s.found.channels[ch].mode := by
  rw [beat_channel s, transferred_mode, moves_mode (workedState_moves s) ch, counted_channels]

theorem beat_enable (ch : ChannelNo) : s.beatEffect.channels[ch].enable = s.found.channels[ch].enable := by
  rw [beat_channel s, transferred_enable, moves_enable (workedState_moves s) ch, counted_channels]

theorem beat_stopActive : s.beatEffect.stopActive = s.stopActive := by
  have found : s.found.stopActive = s.stopActive := stopActive_of_settings (found_settings s)
  have worked : (workedState s).stopActive = s.found.counted.stopActive := stopActive_of_settings (workedState_moves s).settings
  rw [beatEffect_closed, closed_stopActive, worked, counted_stopActive, found]

theorem beat_latch (ch : ChannelNo) : s.beatEffect.channels[ch].latch = true ↔
    s.beatEffect.channels[ch].enable = true ∧ s.beatEffect.channels[ch].staged = true ∧ s.beatEffect.stopActive = false := by
  rw [beat_channel s, beatEffect_closed, closed_stopActive]
  exact transferred_latch

end

/-- A pump channel in AUTO is staged on exactly while a station that holds it has a run in progress (R84, R141). -/
theorem beat_pump_staged (s : State) (p : PumpNo) (auto : s.beatEffect.channels[pumpChannel p].mode = .auto) :
    s.beatEffect.channels[pumpChannel p].staged = true ↔ ∃ st : StationNo, s.found.stations[st].pump = some p ∧
      (s.found.stations[st].runRemaining ≠ none ∨ s.found.startsRun st) := by
  rw [beat_channel s] at auto ⊢
  rw [transferred_mode] at auto
  rw [transferred_auto auto, blockStaged_pump, List.contains_iff_mem, mem_runningPumps]
  simp only [runState_pump, runState_running]

/-! ### The valves -/

theorem anyOccupied_iff (x : Station) : x.anyOccupied = true ↔ ∃ (b : BayNo) (slot : Slot), x.bays[b].state = .occupied slot := by
  have occupied : ∀ b : Bay, b.isOccupied = true ↔ ∃ slot, b.state = .occupied slot := by
    intro b
    unfold Bay.isOccupied
    cases b.state <;> simp
  simp only [Station.anyOccupied, List.any_eq_true, occupied, Vector.mem_toList_iff, Vector.mem_iff_getElem]
  constructor
  · rintro ⟨_, ⟨i, low, rfl⟩, slot, e⟩
    exact ⟨⟨i, low⟩, slot, e⟩
  · rintro ⟨b, slot, e⟩
    exact ⟨_, ⟨b.val, b.isLt, rfl⟩, slot, e⟩

theorem patternOn_entry {table : Vector Pattern 7} {entry : PatternNo} {e : Fin 7} (named : entry.val = e.val + 1) (k : Nat) :
    patternOn table entry k = true ↔ k < table[e].initial ∨ (k - table[e].initial) % table[e].period < table[e].burst := by
  have some : entry ≠ 0 := fun zero => by simp [zero] at named
  have here : table[entry.val - 1]? = Option.some table[e] := by
    rw [named, Nat.add_sub_cancel]
    exact Vector.getElem?_eq_getElem e.isLt
  simp only [patternOn, some, if_false, here, Bool.or_eq_true, decide_eq_true_eq]

theorem valveStaged_still {s : State} {st : StationNo} (still : s.stations[st].pattern = 0) : s.valveStaged st = false := by
  simp only [State.valveStaged, still, bne_self_eq_false, Bool.false_and]

theorem valveStaged_iff {s : State} {st : StationNo} {e : Fin 7} (named : s.stations[st].pattern.val = e.val + 1) :
    s.valveStaged st = true ↔ (∃ (b : BayNo) (slot : Slot), s.stations[st].bays[b].state = .occupied slot) ∧
      (∀ c, (s.carriage c).interlocks st = false) ∧
      let k := (s.beat - s.stations[st].phaseOrigin - 1).toNat
      (k < s.patterns[e].initial ∨ (k - s.patterns[e].initial) % s.patterns[e].period < s.patterns[e].burst) := by
  have some : s.stations[st].pattern ≠ 0 := fun zero => by simp only [zero] at named; exact absurd named (by simp)
  have both : (∀ c, (s.carriage c).interlocks st = false) ↔ s.carriage1.interlocks st = false ∧ s.carriage2.interlocks st = false :=
    ⟨fun all => ⟨all .one, all .two⟩, fun h c => by cases c <;> [exact h.1; exact h.2]⟩
  simp only [State.valveStaged, Bool.and_eq_true, bne_iff_ne, ne_eq, some, not_false_eq_true, true_and, anyOccupied_iff, Bool.not_eq_true',
    patternOn_entry named, both, and_assoc]

/-- Settles O18: the runs in progress and the state the work leaves decide what is staged, and the latch follows it. -/
theorem beatsTransferTheOutputs : Obligations.BeatsTransferTheOutputs := by
  intro s t ch step
  obtain rfl : s.beatEffect = t := Host.Outcome.next.inj step
  have worked : (workedState s).channels[ch].mode = s.beatEffect.channels[ch].mode := by rw [beat_channel s, transferred_mode]
  refine ⟨beat_mode s ch, beat_enable s ch, fun manual => ?_, fun off => ?_, beat_latch s ch, ?_, ?_⟩
  · have counted : s.found.counted.channels[ch].mode ≠ .auto := by
      rw [counted_channels, ← beat_mode s ch, manual]
      decide
    rw [beat_channel s, transferred_manual (worked.trans manual), moves_spared (workedState_moves s) counted, counted_channels]
  · rw [beat_channel s, transferred_off (worked.trans off)]
  · rintro p rfl auto
    exact beat_pump_staged s p auto
  · rintro st e rfl auto
    have staged : s.beatEffect.channels[valveOf st].staged = (workedState s).valveStaged st := by
      rw [beat_channel s, transferred_auto (worked.trans auto), blockStaged_valve]
    have patterns : s.beatEffect.patterns = (workedState s).patterns := by rw [beatEffect_closed, closed_patterns]
    have beat : s.beatEffect.beat = (workedState s).beat := (beat_closes s).beat
    have carriages : s.beatEffect.carriage = (workedState s).carriage := funext (beat_ends s).carriages
    dsimp only
    rw [staged, beat_stations, beat, patterns, carriages]
    generalize workedState s = w
    exact ⟨valveStaged_still, valveStaged_iff⟩

end Sys2Proof.Machine.PumpRuns
end

section
/-! A run that is complete at a beat credits its restore, within the beat or after it (R85, R86), and nothing else in a beat's work moves a bath's run,
its activity, its deficit or its mark EXHAUSTED. -/

namespace Sys2Proof.Machine.PumpRuns

open Sys2Proof.Machine.RecipeBanks Sys2Proof.Machine.HangerTable Sys2Proof.Machine.Development

/-! ### The mark EXHAUSTED in a beat's work -/

/-- The marks EXHAUSTED stand. -/
def KeepsExhausted (s t : State) : Prop := ∀ n, t.hasMark .exhausted n = s.hasMark .exhausted n

section

variable {s t u : State}

theorem KeepsExhausted.of_same (same : t.marks = s.marks) : KeepsExhausted s t := hasMark_congr same .exhausted

theorem KeepsExhausted.refl (s : State) : KeepsExhausted s s := .of_same rfl

theorem KeepsExhausted.trans (a : KeepsExhausted s t) (b : KeepsExhausted t u) : KeepsExhausted s u := fun n => (b n).trans (a n)

theorem mark_keepsExhausted (s : State) {k : Kind} (n : Nat) (other : .exhausted ≠ k) : KeepsExhausted s (s.mark k n) :=
  fun _ => hasMark_mark_apart s (.inl other)

theorem putHanger_keepsExhausted (s : State) (slot : Slot) (h : Hanger) : KeepsExhausted s (s.putHanger slot h) :=
  fun _ => putHanger_hasMark_apart s slot h (.inl (by decide))

theorem silenceAuto_keepsExhausted (s : State) (ch : ChannelNo) : KeepsExhausted s (s.silenceAuto ch) := by
  unfold State.silenceAuto
  split <;> exact .of_same rfl

theorem liftRecord_keepsExhausted (s : State) (slot : Slot) : KeepsExhausted s (s.liftRecord slot) := by
  unfold State.liftRecord
  dsimp only
  split
  · exact .refl s
  · have put := putHanger_keepsExhausted s slot
    split
    · exact (put _).trans (mark_keepsExhausted _ _ (by decide))
    · exact put _

theorem liftOrder_keepsExhausted (s : State) (c : CarriageId) : KeepsExhausted s (s.liftOrder c) := by
  cases job : (s.carriage c).job with
  | none => simp only [State.liftOrder, job, KeepsExhausted.refl]
  | some j =>
    rw [liftOrder_eq job]
    have sent : KeepsExhausted s ((s.advance c .lifting).sendOrder c (.lift j.source.bay)) := .of_same (by simp [State.advance])
    exact (sent.trans (liftRecord_keepsExhausted _ _)).trans (silenceAuto_keepsExhausted _ _)

theorem liftOrAwait_keepsExhausted (s : State) (c : CarriageId) : KeepsExhausted s (s.liftOrAwait c) := by
  unfold State.liftOrAwait
  split
  · exact .refl s
  · split
    · exact .of_same (by simp [State.advance])
    · exact liftOrder_keepsExhausted s c

theorem grant_keepsExhausted (s : State) (c : CarriageId) (r : Request) (d : BayRef) : KeepsExhausted s (s.grant c r d) := by
  unfold State.grant
  dsimp only
  split
  · exact KeepsExhausted.trans (.of_same (by simp)) (liftOrAwait_keepsExhausted _ _)
  · exact .of_same (by simp)

theorem consider_keepsExhausted (s : State) (r : Request) : KeepsExhausted s (s.consider r) := by
  rcases consider_cases s r with same | ⟨c, d, _, granted⟩
  · rw [same]
    exact .refl s
  · rw [granted]
    exact grant_keepsExhausted s c r d

theorem arbitrate_keepsExhausted (s : State) : KeepsExhausted s s.arbitrate := by
  by_cases line : s.lineState = .run
  · have walk : KeepsExhausted s (s.queueOrder.foldl State.consider s) := fun n =>
      fold_hasMark State.consider (fun u r => consider_keepsExhausted u r n) _ s
    exact walk.trans (.of_same (arbitrate_run line).marks)
  · rw [arbitrate_idle line]
    exact .refl s

theorem signal_keepsExhausted (s : State) (slot : Slot) : KeepsExhausted s (s.signal slot) := by
  have signalled : ∀ (u : State) c, KeepsExhausted u (u.signalCarriage slot c) := by
    intro u c
    unfold State.signalCarriage
    split
    · exact liftOrder_keepsExhausted u c
    · exact .refl u
  exact (signalled s .one).trans (signalled _ .two)

theorem reserve_keepsExhausted (s : State) (slot : Slot) (h : Hanger) (d : BayRef) : KeepsExhausted s (s.reserve slot h d) :=
  KeepsExhausted.trans (t := s.setBay d { s.bayAt d with state := .reserved slot }) (.of_same rfl) (putHanger_keepsExhausted _ _ _)

theorem lodge_keepsExhausted (s : State) (slot : Slot) (cls : RequestClass) (deadline : Beat) :
    KeepsExhausted s (s.lodge slot cls deadline) := by
  unfold State.lodge
  split
  · exact .refl s
  · split
    · exact .refl s
    · split
      · exact ((reserve_keepsExhausted s _ _ _).trans (.of_same rfl)).trans (arbitrate_keepsExhausted _)
      · have pending : ∀ q, KeepsExhausted s ({ s with queue := q }.mark .bayPending slot.val) := fun q =>
          KeepsExhausted.trans (t := { s with queue := q }) (.of_same rfl) (mark_keepsExhausted _ _ (by decide))
        dsimp only
        split
        · exact (pending _).trans (mark_keepsExhausted _ _ (by decide))
        · exact pending _

theorem callPoint_keepsExhausted (s : State) (slot : Slot) (h : Hanger) (n : Nat) : KeepsExhausted s (s.callPoint slot h n) := by
  unfold State.callPoint
  split
  · exact .refl s
  · split
    · exact (putHanger_keepsExhausted s _ _).trans (lodge_keepsExhausted _ _ _ _)
    · exact .refl s

theorem developSlot_keepsExhausted (s : State) (slot : Slot) : KeepsExhausted s (s.developSlot slot) := by
  unfold State.developSlot
  split
  · exact .refl s
  · split
    · exact .refl s
    · split
      · dsimp only
        refine KeepsExhausted.trans ?_ ((callPoint_keepsExhausted _ _ _ _).trans (signal_keepsExhausted _ _))
        split
        · exact (putHanger_keepsExhausted s _ _).trans (mark_keepsExhausted _ _ (by decide))
        · exact putHanger_keepsExhausted s _ _
      · exact .refl s

theorem minimumSlot_keepsExhausted (s : State) (slot : Slot) : KeepsExhausted s (s.minimumSlot slot) := by
  unfold State.minimumSlot
  split
  · exact .refl s
  · split
    · exact .refl s
    · split
      · exact (putHanger_keepsExhausted s _ _).trans (lodge_keepsExhausted _ _ _ _)
      · exact .refl s

theorem overstaySlot_keepsExhausted (s : State) (slot : Slot) : KeepsExhausted s (s.overstaySlot slot) := by
  unfold State.overstaySlot
  split
  · exact .refl s
  · split
    · exact .refl s
    · split
      · exact (putHanger_keepsExhausted s _ _).trans (mark_keepsExhausted _ _ (by decide))
      · exact .refl s

end

/-! ### The credit of a run -/

section

variable {s : State} {st : StationNo} {x y : Station}

theorem credited_activity (x : Station) : x.credited.activity =
    if x.restore ≤ x.deficit then x.activity else min 1024 (x.activity + (x.restore - x.deficit)) := by
  unfold Station.credited
  split <;> rfl

theorem credited_deficit (x : Station) : x.credited.deficit = x.deficit - x.restore := by
  unfold Station.credited
  split
  · rfl
  · next above => exact (Nat.sub_eq_zero_of_le (Nat.le_of_not_le above)).symm

theorem credited_run (x : Station) : x.credited.pendingRuns = x.pendingRuns ∧ x.credited.runRemaining = x.runRemaining := by
  unfold Station.credited
  split <;> exact ⟨rfl, rfl⟩

/-- Beyond activity and deficit a credit writes nothing (R86). -/
theorem credited_eq (x : Station) : x.credited = { x with
    activity := if x.restore ≤ x.deficit then x.activity else min 1024 (x.activity + (x.restore - x.deficit))
    deficit := x.deficit - x.restore } := by
  rw [← credited_activity, ← credited_deficit]
  unfold Station.credited
  split <;> rfl

theorem creditBath_stations (s : State) (st : StationNo) : (s.creditBath st).stations = (s.setStation st s.stations[st].credited).stations := by
  unfold State.creditBath
  dsimp only
  split <;> rfl

/-- The restore of a run makes up the deficit that stands (R86). -/
def MakesUp (x : Station) : Prop := 0 < x.deficit ∧ x.deficit ≤ x.restore

theorem makesUp_iff (x : Station) : MakesUp x ↔ 0 < x.deficit ∧ x.credited.deficit = 0 := by
  rw [credited_deficit, Nat.sub_eq_zero_iff_le]
  exact Iff.rfl

theorem creditBath_clears (clears : MakesUp s.stations[st]) :
    s.creditBath st = (s.setStation st s.stations[st].credited).unmark .exhausted st.val := if_pos ((makesUp_iff _).1 clears)

theorem creditBath_stays (stays : ¬MakesUp s.stations[st]) : s.creditBath st = s.setStation st s.stations[st].credited :=
  if_neg fun clears => stays ((makesUp_iff _).2 clears)

/-- A credit clears EXHAUSTED of its station where it makes up the deficit, and of no other station (R86). -/
theorem creditBath_hasMark (s : State) (i : StationNo) (n : Nat) : (s.creditBath i).hasMark .exhausted n = true ↔
    s.hasMark .exhausted n = true ∧ ¬(n = i.val ∧ MakesUp s.stations[i]) := by
  have kept : (s.setStation i s.stations[i].credited).hasMark .exhausted n = s.hasMark .exhausted n := hasMark_congr rfl _ n
  by_cases clears : MakesUp s.stations[i]
  · rw [creditBath_clears clears, hasMark_unmark_iff, kept]
    simp only [clears, and_true, ne_eq]
  · rw [creditBath_stays clears, kept]
    simp only [clears, and_false, not_false_eq_true, and_true]

end

/-! ### The work on one bath -/

theorem sameTank_refl (x : Station) : x.sameTank x := ⟨_, _, rfl⟩

theorem sameTank_trans (x y z : Station) (a : x.sameTank y) (b : y.sameTank z) : x.sameTank z := by
  obtain ⟨_, _, rfl⟩ := a
  obtain ⟨_, _, rfl⟩ := b
  exact ⟨_, _, rfl⟩

/-- The station is as `x` but for bays and phase origin, and its mark EXHAUSTED stands exactly where `marked` says. -/
structure BathIs (st : StationNo) (x : Station) (marked : Prop) (s : State) : Prop where
  tank : x.sameTank s.stations[st]
  mark : s.hasMark .exhausted st.val = true ↔ marked

section

variable {s : State} {st : StationNo} {x : Station} {marked : Prop} {e : BeatTask}

/-- Of a bath the work of a beat moves run, activity, deficit and EXHAUSTED only at its own credit (R86). -/
theorem takeTask_bathIs (other : e ≠ .credit st) (m : BathIs st x marked s) : BathIs st x marked (s.takeTask e) := by
  have moved : ∀ t, LineMove (fun _ _ => True) Station.sameTank s t → KeepsExhausted s t → BathIs st x marked t := fun t move keeps =>
    ⟨sameTank_trans _ _ _ m.tank (move.station_of sameTank_refl sameTank_trans st), by rw [keeps]; exact m.mark⟩
  cases e with
  | develop i =>
    exact moved _ (s.developSlot_moves (fun _ _ _ => trivial) (fun _ _ => id) (fun _ _ _ => trivial) i) (developSlot_keepsExhausted s i)
  | minimum i => exact moved _ (s.minimumSlot_moves (fun _ _ _ => trivial) (fun _ _ => id) i) (minimumSlot_keepsExhausted s i)
  | overstay i => exact moved _ (s.overstaySlot_moves (fun _ _ _ => trivial) i) (overstaySlot_keepsExhausted s i)
  | credit i =>
    have apart : st ≠ i := fun same => other (same ▸ rfl)
    constructor
    · change x.sameTank (s.creditBath i).stations[st]
      rw [creditBath_stations, State.setStation_get, if_neg apart]
      exact m.tank
    · exact (creditBath_hasMark s i st.val).trans ((and_iff_left fun own => apart (Fin.ext own.1)).trans m.mark)

/-- At its credit the bath is credited, and EXHAUSTED cleared where the deficit is made up (R86). -/
theorem takeTask_credits (m : BathIs st x marked s) : BathIs st x.credited (marked ∧ ¬MakesUp x) (s.takeTask (.credit st)) := by
  have written : (s.takeTask (.credit st)).stations[st] = s.stations[st].credited := by
    change (s.creditBath st).stations[st] = _
    rw [creditBath_stations, State.setStation_get, if_pos rfl]
  have clears := creditBath_hasMark s st st.val
  obtain ⟨⟨bays, origin, tank⟩, mark⟩ := m
  rw [tank] at written clears
  refine ⟨⟨bays, origin, ?_⟩, clears.trans (and_congr mark (by simp only [true_and]; exact Iff.rfl))⟩
  rw [written, credited_eq, credited_eq]

/-- What the work of a beat leaves of a bath (R85, R86). -/
theorem worked_bathIs (m : BathIs st x marked (workState s)) :
    (.credit st ∈ workOf s → BathIs st x.credited (marked ∧ ¬MakesUp x) (workedState s)) ∧
      (.credit st ∉ workOf s → BathIs st x marked (workedState s)) := by
  constructor <;> intro mem
  · exact work_turns (workOf_nodup s) mem (fun _ _ other _ => takeTask_bathIs other) (fun _ => takeTask_credits)
      (fun _ _ other _ => takeTask_bathIs other) m
  · exact work_keeps (P := BathIs st x marked) (fun e within _ => takeTask_bathIs fun same => mem (same ▸ within)) m

end

/-! ### The runs that are complete -/

section

variable {s : State} {st : StationNo} {x : Station}

/-- What a count leaves of the beats a run has to go (R85). -/
theorem countedDown_running {k : Nat} (runs : x.runRemaining = some k) :
    x.countedDown = { x with runRemaining := if k ≤ 1 then none else some (k - 1) } := by
  unfold Station.countedDown
  rw [runs]
  match k with
  | 0 => rfl
  | 1 => rfl
  | k + 2 => rfl

theorem countedDown_idle (idle : x.runRemaining = none) : x.countedDown = x := by
  unfold Station.countedDown
  cases x
  cases idle
  rfl

theorem completes_iff (x : Station) : x.completes = true ↔ ∃ k, x.runRemaining = some k ∧ k ≤ 1 := by
  unfold Station.completes Station.running
  cases runs : x.runRemaining with
  | none => simp only [Option.isSome_none, Bool.false_and, Bool.false_eq_true, reduceCtorEq, false_and, exists_false]
  | some k =>
    rw [countedDown_running runs]
    by_cases last : k ≤ 1 <;> simp [last]

/-- The run of a station is complete at a beat: the last beat of one found, or the only beat of one that starts (R85). -/
def Completes (s : State) (st : StationNo) : Prop :=
  (∃ k, s.found.stations[st].runRemaining = some k ∧ k ≤ 1) ∨ (s.found.stations[st].runLength ≤ 1 ∧ s.found.startsRun st)

theorem runState_completes (s : State) (st : StationNo) : (runState s).stations[st].completes = true ↔ Completes s st := by
  obtain ⟨starting, idle⟩ := runState_get s st
  rw [completes_iff, Completes]
  by_cases starts : s.found.startsRun st
  · have none : s.found.stations[st].runRemaining = none := starts.2.1
    rw [starting starts, none]
    simp [begun, Station.aged, starts]
  · rw [idle starts]
    simp [Station.aged, starts]

theorem mem_completing : st ∈ s.completing ↔ s.stations[st].completes = true := by
  simp only [State.completing, List.mem_filter, List.mem_finRange, allStations, true_and]

/-- A run that is complete is credited within the beat, where the model's draw says so (R86; log 6). -/
theorem credit_mem_workOf : .credit st ∈ workOf s ↔ Completes s st ∧ Config.creditInside s.draws st.val = true := by
  rw [mem_workOf, credit_mem, ← runState_completes, ← mem_completing]
  exact List.mem_filter

/-- And else the beat leaves its credit to be made (R86; log 4, log 6). -/
theorem credit_mem_leftBy : .credit st ∈ leftBy s ↔ Completes s st ∧ Config.creditInside s.draws st.val = false := by
  rw [leftBy, ← runState_completes, ← mem_completing]
  simp [State.carriageFollowUps]

end

/-! ### A station over a beat -/

section

variable {s : State} {st : StationNo}

theorem countedDown_bath (x : Station) : x.countedDown.activity = x.activity ∧ x.countedDown.deficit = x.deficit ∧
    x.countedDown.restore = x.restore ∧ x.countedDown.pendingRuns = x.pendingRuns := by
  unfold Station.countedDown
  split <;> exact ⟨rfl, rfl, rfl, rfl⟩

/-- What is found of a bath the work finds too: nothing before it credits. -/
theorem workState_credit (s : State) (st : StationNo) : (workState s).stations[st].activity = s.found.stations[st].activity ∧
    (workState s).stations[st].deficit = s.found.stations[st].deficit ∧ (workState s).stations[st].restore = s.found.stations[st].restore := by
  obtain ⟨activity, deficit, restore, _⟩ := countedDown_bath (runState s).stations[st]
  obtain ⟨starting, idle⟩ := runState_get s st
  rw [workState_get, activity, deficit, restore]
  by_cases starts : s.found.startsRun st
  · rw [starting starts]
    exact ⟨rfl, rfl, rfl⟩
  · rw [idle starts]
    exact ⟨rfl, rfl, rfl⟩

/-- The pending count and the run of a station after a beat. -/
structure RunsOn (x : Station) (pending : Nat) (remaining : Option Nat) : Prop where
  pending : x.pendingRuns = pending
  remaining : x.runRemaining = remaining

theorem workState_starting (starts : s.found.startsRun st) : RunsOn (workState s).stations[st] (s.found.stations[st].pendingRuns - 1)
    (if s.found.stations[st].runLength ≤ 1 then none else some (s.found.stations[st].runLength - 1)) := by
  have runs : (runState s).stations[st].runRemaining = some s.found.stations[st].runLength := by
    rw [(runState_get s st).1 starts]
    rfl
  rw [workState_get, countedDown_running runs]
  exact ⟨by rw [(runState_get s st).1 starts]; rfl, rfl⟩

theorem workState_running {k : Nat} (found : s.found.stations[st].runRemaining = some k) :
    RunsOn (workState s).stations[st] s.found.stations[st].pendingRuns (if k ≤ 1 then none else some (k - 1)) := by
  have busy : ¬s.found.startsRun st := fun starts => by
    have none := starts.2.1
    rw [found] at none
    cases none
  have runs : (runState s).stations[st].runRemaining = some k := by
    rw [(runState_get s st).2 busy]
    exact found
  rw [workState_get, countedDown_running runs]
  exact ⟨by rw [(runState_get s st).2 busy]; rfl, rfl⟩

theorem workState_idle (found : s.found.stations[st].runRemaining = none) (idle : ¬s.found.startsRun st) :
    RunsOn (workState s).stations[st] s.found.stations[st].pendingRuns none := by
  have none : (runState s).stations[st].runRemaining = none := by
    rw [(runState_get s st).2 idle]
    exact found
  rw [workState_get, countedDown_idle none]
  exact ⟨by rw [(runState_get s st).2 idle]; rfl, none⟩

theorem workState_bathIs (s : State) (st : StationNo) :
    BathIs st (workState s).stations[st] (s.found.hasMark .exhausted st.val = true) (workState s) :=
  ⟨sameTank_refl _, by rw [workState_hasMark s _ (by decide)]⟩

theorem RunsOn.of_tank {x y : Station} {pending : Nat} {remaining : Option Nat} (tank : x.sameTank y) (m : RunsOn x pending remaining) :
    RunsOn y pending remaining := by
  obtain ⟨_, _, rfl⟩ := tank
  exact ⟨m.pending, m.remaining⟩

theorem tank_bath {x y : Station} (tank : x.sameTank y) : y.activity = x.activity ∧ y.deficit = x.deficit := by
  obtain ⟨_, _, rfl⟩ := tank
  exact ⟨rfl, rfl⟩

/-- No work moves a run. -/
theorem RunsOn.beat {pending : Nat} {remaining : Option Nat} (m : RunsOn (workState s).stations[st] pending remaining) :
    RunsOn s.beatEffect.stations[st] pending remaining := by
  rw [beat_stations s]
  obtain ⟨inside, outside⟩ := worked_bathIs (workState_bathIs s st)
  obtain ⟨pends, remains⟩ := credited_run (workState s).stations[st]
  by_cases mem : .credit st ∈ workOf s
  · exact RunsOn.of_tank (inside mem).tank ⟨pends.trans m.pending, remains.trans m.remaining⟩
  · exact RunsOn.of_tank (outside mem).tank m

theorem beat_hasMark (s : State) (n : Nat) : s.beatEffect.hasMark .exhausted n = (workedState s).hasMark .exhausted n :=
  hasMark_congr (beat_ends s).marks _ n

/-- A bath whose credit is not taken within the beat stands. -/
theorem beat_stands (left : .credit st ∉ workOf s) : s.beatEffect.stations[st].activity = s.found.stations[st].activity ∧
    s.beatEffect.stations[st].deficit = s.found.stations[st].deficit ∧
    s.beatEffect.hasMark .exhausted st.val = s.found.hasMark .exhausted st.val := by
  obtain ⟨tank, mark⟩ := (worked_bathIs (workState_bathIs s st)).2 left
  obtain ⟨activities, deficits⟩ := tank_bath tank
  obtain ⟨activity, deficit, _⟩ := workState_credit s st
  rw [beat_hasMark s, beat_stations s, activities, deficits]
  exact ⟨activity, deficit, Bool.eq_iff_iff.2 mark⟩

/-- A bath whose credit is taken within the beat is credited (R86). -/
theorem beat_credited (s : State) (st : StationNo) : .credit st ∈ workOf s →
    s.beatEffect.stations[st].activity = s.found.stations[st].credited.activity ∧
    s.beatEffect.stations[st].deficit = s.found.stations[st].credited.deficit ∧
    (s.beatEffect.hasMark .exhausted st.val = true ↔ s.found.hasMark .exhausted st.val = true ∧ ¬MakesUp s.found.stations[st]) := by
  intro taken
  obtain ⟨tank, mark⟩ := (worked_bathIs (workState_bathIs s st)).1 taken
  obtain ⟨activities, deficits⟩ := tank_bath tank
  obtain ⟨activity, deficit, restore⟩ := workState_credit s st
  rw [MakesUp, deficit, restore] at mark
  rw [beat_hasMark s, beat_stations s, activities, deficits]
  refine ⟨?_, ?_, mark⟩
  · rw [credited_activity, credited_activity, activity, deficit, restore]
  · rw [credited_deficit, credited_deficit, deficit, restore]

/-- While its pump channel is in AUTO and enabled with the LINE STOP input inactive, a run has its pump on (R85, R136). -/
theorem beat_pump_on {p : PumpNo} (pump : s.found.stations[st].pump = some p)
    (runs : s.found.stations[st].runRemaining ≠ none ∨ s.found.startsRun st) (auto : s.found.channels[pumpChannel p].mode = .auto)
    (enable : s.found.channels[pumpChannel p].enable = true) (stop : s.stopActive = false) :
    s.beatEffect.channels[pumpChannel p].latch = true := by
  rw [beat_latch s, beat_enable s, beat_stopActive s]
  exact ⟨enable, (beat_pump_staged s p ((beat_mode s _).trans auto)).2 ⟨st, pump, runs⟩, stop⟩

end

/-! ### A credit made after the beat -/

section

variable {s : State} {st : StationNo}

theorem runComplete_left (left : .credit st ∈ s.due) :
    exec (.runComplete st) s = .next (({ s with sent := [], due := s.due.erase (.credit st) } : State).creditBath st) :=
  congrArg _ (if_pos (List.contains_iff_mem.2 left))

theorem runComplete_stray (stray : .credit st ∉ s.due) : exec (.runComplete st) s = .next { s with sent := [] } :=
  congrArg _ (if_neg fun mem => stray (List.contains_iff_mem.1 mem))

theorem creditBath_eq (s : State) (st : StationNo) : s.creditBath st = { s with
    stations := s.stations.set st.val s.stations[st].credited
    marks := if 0 < s.stations[st].deficit ∧ s.stations[st].deficit ≤ s.stations[st].restore
      then s.marks.set 9 (s.marks[9].filter fun n => n != st.val) else s.marks } := by
  by_cases clears : MakesUp s.stations[st]
  · rw [creditBath_clears clears, if_pos (show _ ∧ _ from clears)]
    rfl
  · rw [creditBath_stays clears, if_neg (show ¬(_ ∧ _) from clears)]
    rfl

end

/-- Settles O17: the runs start and count before the work, the work credits those that the model's draw puts within the beat, and RUN_COMPLETE the
others. -/
theorem pumpRunsCountAndCredit : Obligations.PumpRunsCountAndCredit := by
  refine ⟨?_, ?_, ?_⟩
  · intro s t st p step develop pump
    obtain rfl : s.beatEffect = t := Host.Outcome.next.inj step
    have stop : s.found.stopActive = s.stopActive := stopActive_of_settings (found_settings s)
    dsimp only
    refine ⟨fun none pends free => ?_, fun none withheld => ?_, fun k runs => ?_⟩
    · obtain ⟨auto, enable, inactive⟩ := free
      have starts : s.found.startsRun st := ⟨develop, none, pends, stop.trans inactive, p, pump, auto, enable⟩
      have after := (workState_starting starts).beat
      exact ⟨after.pending, after.remaining, beat_pump_on pump (.inr starts) auto enable inactive⟩
    · have idle : ¬s.found.startsRun st := by
        rintro ⟨_, _, pends, inactive, q, holds, auto, enable⟩
        obtain rfl : p = q := Option.some.inj (pump.symm.trans holds)
        exact withheld ⟨pends, auto, enable, stop.symm.trans inactive⟩
      have after := (workState_idle none idle).beat
      exact ⟨after.pending, after.remaining⟩
    · have after := (workState_running runs).beat
      exact ⟨after.pending, after.remaining, fun ⟨auto, enable, inactive⟩ =>
        beat_pump_on pump (.inl fun none => by rw [runs] at none; cases none) auto enable inactive⟩
  · intro s t st step
    obtain rfl : s.beatEffect = t := Host.Outcome.next.inj step
    have due : s.beatEffect.due = leftBy s := by rw [beatEffect_closed, closed_due]
    dsimp only
    rw [due, credit_mem_leftBy]
    refine ⟨fun complete => ?_, fun incomplete => ?_⟩
    · cases drawn : Config.creditInside s.draws st.val with
      | false => exact .inl ⟨⟨complete, rfl⟩, beat_stands fun mem => by simp [credit_mem_workOf, drawn] at mem⟩
      | true =>
        obtain ⟨activity, deficit, mark⟩ := beat_credited s st (credit_mem_workOf.2 ⟨complete, drawn⟩)
        exact .inr ⟨fun left => by simp at left, activity.trans (credited_activity _), deficit.trans (credited_deficit _), mark⟩
    · exact ⟨fun left => incomplete left.1, beat_stands fun mem => incomplete (credit_mem_workOf.1 mem).1⟩
  · intro s st
    refine ⟨fun left => ?_, runComplete_stray⟩
    rw [runComplete_left left, creditBath_eq, credited_eq]

end Sys2Proof.Machine.PumpRuns
end
